-- ==== Sys2Proof/Word.lean ====
section
/-! DEFINITION. The values the block handles (00_scope.md R9): line levels, bytes, addresses, sample positions. -/

namespace Sys2Proof

/-- A line level: 1 is HIGH (the idle level), 0 is LOW (R9). -/
inductive Level where
  | low
  | high
deriving DecidableEq, Repr

/-- The value of a byte, `v[7:0]` (R51). -/
abbrev Byte := BitVec 8

/-- The address register's width serves 2 and 3 address bytes alike (R19, D28). -/
abbrev Addr := BitVec 24

/-- A sample position or a duration in samples. The spec carries both as natural numbers (R11, R79). -/
abbrev Pos := Nat

end Sys2Proof
end

