-- ==== Sys2Proof/Config.lean ====
section
/-! DEFINITION. The configuration inputs and the open parameters (R6, R7, R24): constant during a run (R41, R181). -/

namespace Sys2Proof

/-- The configuration inputs of R24 and the model parameters of R7. Values are natural numbers (R24). -/
structure Config where
  /-- `SAMPLE_RATE`: samples per second of `din` (R6). -/
  sampleRate : Nat
  /-- `BIT_RATE`: protocol bits per second (R6). -/
  bitRate : Nat
  /-- `ADDRESS_BYTES`: width of the address field in bytes, 2 or 3 (R6). -/
  addressBytes : Nat
  /-- `TRIG_WAIT_SAMPLES`: the bounded wait for a trigger, in samples (R7, R155). -/
  trigWait : Nat
  /-- `POS_W`: width of every sample-position register (R7). -/
  posW : Nat
  /-- `DATA_CNT_W`: width of the data-byte counter (R7). -/
  dataCntW : Nat
  /-- `MSB_FIRST`: order of the data bits of a byte on the wire (R7, R32). -/
  msbFirst : Bool
deriving DecidableEq, Repr

/-- The legal values of R6, R7 and R24. Anything else is refused (R24, R177, U4). -/
def Config.legal (c : Config) : Bool :=
  decide (0 < c.sampleRate) && decide (0 < c.bitRate) && (c.addressBytes == 2 || c.addressBytes == 3) &&
    decide (1 ≤ c.posW) && decide (1 ≤ c.dataCntW)

/-- The configuration that stands beside the reset state: the defaults of R6 and R7.
`sampleRate` and `trigWait` have no default in the spec: DESIGN CHOICE, unsafe (log entry 4);
they are the values the test vectors of 95_test_vectors.md use. -/
def Config.initial : Config where
  sampleRate := 24000000
  bitRate := 960000
  addressBytes := 3
  trigWait := 250
  posW := 64
  dataCntW := 16
  msbFirst := true

end Sys2Proof
end

