-- ==== Sys2Proof/Syntax.lean ====
section
/-! DEFINITION. The names of the spec's enumerations and the symbols of `opcode_table.json`, one constructor a row. -/

namespace Sys2Proof

/-- The transaction state (R15). The pseudo-state ERROR (code 8) is passed through inside a tick and never
held (R113), and codes 9 to 15 are never held: neither exists here (U8). -/
inductive TState where
  | idle
  | seekingStart
  | readingAddress
  | readingRwId
  | writingData
  | awaitingTrigger
  | readingData
  | seekingEnd
deriving DecidableEq, Repr

/-- Where the EBC is inside a pulse (R13). -/
inductive Phase where
  | waitFall
  | inLow
  | inHigh
deriving DecidableEq, Repr

/-- The byte shape: 10 bits with a CMD bit, or 9 bits without (R26, R49, R50). -/
inductive Shape where
  | master
  | slave
deriving DecidableEq, Repr

/-- The five error kinds (R150). The list is closed. -/
inductive ErrorKind where
  | invalidBitEncoding
  | prematureEndOfStream
  | unexpectedControlByte
  | malformedEndMarker
  | missingTrigger
deriving DecidableEq, Repr

/-- The symbols the block decodes (R56, R61): one constructor per row of `opcode_table.json`.
A pulse symbol has no operand: its span is that of the pulse the EBC closes (R77). `f` is the framing bit
of a frame, `c` its CMD bit, `d` and `a` its value, `id` the slave ID. -/
inductive Instr where
  /-- BIT0: a pulse that carries bit 0 (R46, R68, R69). -/
  | bit0
  /-- BIT1: a pulse that carries bit 1 (R46, R68, R69). -/
  | bit1
  /-- TRIGGER: a 1-unit LOW in AWAITING_TRIGGER (R47, R74, R108). -/
  | trigger
  /-- BAD_PULSE: any other pulse (R57, R151). -/
  | badPulse
  /-- START: CMD 1, 0x5A in SEEKING_START (R103). -/
  | start (f : Bool)
  /-- SKIP: any other MASTER byte in SEEKING_START (R58, R103). -/
  | skip (c : Bool) (d : Byte) (f : Bool)
  /-- ADDR: one address byte (R104). -/
  | addr (a : Byte) (f : Bool)
  /-- CTL_IN_ADDR: CMD 1 in READING_ADDRESS (R104, R153). -/
  | ctlInAddr (d : Byte) (f : Bool)
  /-- RWID_WR: the RW_ID byte, direction WRITE (R105). -/
  | rwidWr (id : BitVec 7) (f : Bool)
  /-- RWID_RD: the RW_ID byte, direction READ (R105). -/
  | rwidRd (id : BitVec 7) (f : Bool)
  /-- CTL_IN_RWID: CMD 1 in READING_RW_ID (R105, R153). -/
  | ctlInRwid (d : Byte) (f : Bool)
  /-- WDATA: one write data byte (R106). -/
  | wdata (d : Byte) (f : Bool)
  /-- END: CMD 1, 0xFF in SEEKING_END (R112). -/
  | endMark (f : Bool)
  /-- BAD_END: CMD 1 with another value in SEEKING_END (R112, R154). -/
  | badEnd (d : Byte) (f : Bool)
  /-- RDATA: one read data byte, a SLAVE frame (R111). -/
  | rdata (d : Byte) (f : Bool)
deriving DecidableEq, Repr

/-- The data value of START (R6). -/
def startValue : Byte := 0x5A

/-- The data value of END (R6). -/
def endValue : Byte := 0xFF

/-- The row's mnemonic in `opcode_table.json`. -/
def Instr.mnemonic : Instr → String
  | .bit0 => "BIT0"
  | .bit1 => "BIT1"
  | .trigger => "TRIGGER"
  | .badPulse => "BAD_PULSE"
  | .start _ => "START"
  | .skip _ _ _ => "SKIP"
  | .addr _ _ => "ADDR"
  | .ctlInAddr _ _ => "CTL_IN_ADDR"
  | .rwidWr _ _ => "RWID_WR"
  | .rwidRd _ _ => "RWID_RD"
  | .ctlInRwid _ _ => "CTL_IN_RWID"
  | .wdata _ _ => "WDATA"
  | .endMark _ => "END"
  | .badEnd _ _ => "BAD_END"
  | .rdata _ _ => "RDATA"

end Sys2Proof
end

