-- ==== Sys2Proof/WellFormed.lean ====
section
/-! DEFINITION. The two checks a symbol's operands must meet, and the state in which the table has its row. -/

namespace Sys2Proof

/-- SKIP applies only when START does not, BAD_END only when END does not (R56, R61). Every other operand
value is legal: "Reserved: nothing" (R59). -/
def Instr.wellFormed : Instr → Bool
  | .skip c d _ => !(c && d == startValue)
  | .badEnd d _ => d != endValue
  | .bit0 => true
  | .bit1 => true
  | .trigger => true
  | .badPulse => true
  | .start _ => true
  | .addr _ _ => true
  | .ctlInAddr _ _ => true
  | .rwidWr _ _ => true
  | .rwidRd _ _ => true
  | .ctlInRwid _ _ => true
  | .wdata _ _ => true
  | .endMark _ => true
  | .rdata _ _ => true

/-- The states in which the table has a row for the symbol (R56): "the `state` field of the row" (R61).
A pulse of 1 unit LOW is no BIT0 in AWAITING_TRIGGER (R47, R110). -/
def Instr.legalIn (st : TState) : Instr → Bool
  | .bit0 => st != .awaitingTrigger
  | .bit1 => true
  | .trigger => st == .awaitingTrigger
  | .badPulse => true
  | .start _ => st == .seekingStart
  | .skip _ _ _ => st == .seekingStart
  | .addr _ _ => st == .readingAddress
  | .ctlInAddr _ _ => st == .readingAddress
  | .rwidWr _ _ => st == .readingRwId
  | .rwidRd _ _ => st == .readingRwId
  | .ctlInRwid _ _ => st == .readingRwId
  | .wdata _ _ => st == .writingData
  | .endMark _ => st == .seekingEnd
  | .badEnd _ _ => st == .seekingEnd
  | .rdata _ _ => st == .readingData

end Sys2Proof
end

