-- ==== Sys2Proof/Decode.lean ====
section
/-! DEFINITION. From wire formats to symbols (30_encoding.md): the pulse classification on unit counts, the frame
decoder, the rows of `opcode_table.json`, then the encoder, then the reading of a table word. -/

namespace Sys2Proof

/-- What stands on the wire for one symbol (R45, R61): a pulse written as its line levels, one a unit and the first
unit first (formats U5 and U1), a MASTER frame word (M10, R49) or a SLAVE frame word (S9, R50). -/
inductive Wire where
  | pulse (levels : List Level)
  | master (w : BitVec 10)
  | slave (w : BitVec 9)
deriving DecidableEq, Repr

/-- Why the decoder rejects. -/
inductive DecodeError where
  /-- The levels are not a LOW phase followed by a HIGH phase (R46). -/
  | notAPulse
  /-- No MASTER frame completes in this state, or not with this CMD bit (R56, R110, U12). -/
  | noMasterRow
  /-- A SLAVE frame is read in READING_DATA only (R26, R56). -/
  | noSlaveRow
deriving DecidableEq, Repr

/-! ### Pulses, by unit counts -/

/-- `classify_strict` (R68): a pulse closed by a falling edge, `l` units LOW and `h` units HIGH. -/
def classifyStrict (l h : Nat) : Instr :=
  if l = 1 ∧ h = 4 then .bit0 else if l = 4 ∧ h = 1 then .bit1 else .badPulse

/-- `classify_idle` (R69): a pulse whose HIGH phase ran into an idle line; the HIGH count is not tested. -/
def classifyIdle (l : Nat) : Instr :=
  if l = 1 then .bit0 else if l = 4 then .bit1 else .badPulse

/-- The end-of-stream close (R76): the symbol if the 5 units have fully passed, none if the pulse is mid-bit. -/
def classifyEos (l h : Nat) : Option Instr :=
  if l = 1 ∧ 4 ≤ h then some .bit0 else if l = 4 ∧ 1 ≤ h then some .bit1 else none

/-- The trigger test at a rising edge (R47, R74): in AWAITING_TRIGGER, a LOW of 1 unit. -/
def isTrigger (st : TState) (l : Nat) : Bool :=
  st == .awaitingTrigger && l == 1

/-- Number of leading LOW units. -/
def lowRun : List Level → Nat
  | .low :: rest => lowRun rest + 1
  | _ => 0

/-- What follows the leading LOW units. -/
def afterLow : List Level → List Level
  | .low :: rest => afterLow rest
  | rest => rest

/-- A pulse pattern: one LOW phase followed by one HIGH phase (R45, R46); the HIGH phase of a trigger is not part of
its format (R47). -/
def decodePulse (st : TState) (levels : List Level) : Except DecodeError Instr :=
  if lowRun levels = 0 ∨ Level.low ∈ afterLow levels then .error .notAPulse
  else if isTrigger st (lowRun levels) then .ok .trigger
  else .ok (classifyStrict (lowRun levels) (afterLow levels).length)

/-! ### Frames -/

/-- `w[9]`, the CMD bit of a MASTER frame (R49). -/
def masterCmd (w : BitVec 10) : Bool := w.getLsbD 9

/-- `w[8:1]`, the value of a MASTER frame (R49, R51). -/
def masterValue (w : BitVec 10) : Byte := w.extractLsb' 1 8

/-- `w[0]`, the framing bit of a MASTER frame (R49). -/
def masterFraming (w : BitVec 10) : Bool := w.getLsbD 0

/-- `w[8:1]`, the value of a SLAVE frame (R50, R51). -/
def slaveValue (w : BitVec 9) : Byte := w.extractLsb' 1 8

/-- `w[0]`, the framing bit of a SLAVE frame (R50). -/
def slaveFraming (w : BitVec 9) : Bool := w.getLsbD 0

/-- Bit 7 of the RW_ID value selects the direction, 1 = READ (R55). -/
def rwidDir (d : Byte) : Bool := d.getLsbD 7

/-- Bits 6..0 of the RW_ID value are the slave ID (R55). -/
def rwidSlave (d : Byte) : BitVec 7 := d.extractLsb' 0 7

/-- What a complete MASTER frame means in each state (R56). -/
def decodeMaster (st : TState) (w : BitVec 10) : Except DecodeError Instr :=
  let c := masterCmd w
  let d := masterValue w
  let f := masterFraming w
  match st with
  | .seekingStart => if c && d == startValue then .ok (.start f) else .ok (.skip c d f)
  | .readingAddress => if c then .ok (.ctlInAddr d f) else .ok (.addr d f)
  | .readingRwId =>
    if c then .ok (.ctlInRwid d f)
    else if rwidDir d then .ok (.rwidRd (rwidSlave d) f) else .ok (.rwidWr (rwidSlave d) f)
  | .writingData => if c then .error .noMasterRow else .ok (.wdata d f)
  | .seekingEnd => if c then (if d == endValue then .ok (.endMark f) else .ok (.badEnd d f)) else .error .noMasterRow
  | .idle => .error .noMasterRow
  | .awaitingTrigger => .error .noMasterRow
  | .readingData => .error .noMasterRow

/-- What a complete SLAVE frame means: only READING_DATA has the SLAVE shape (R26, R56). -/
def decodeSlave (st : TState) (w : BitVec 9) : Except DecodeError Instr :=
  if st = .readingData then .ok (.rdata (slaveValue w) (slaveFraming w)) else .error .noSlaveRow

/-- The decoder: the state, then the fields (R56, R60). -/
def decode (st : TState) : Wire → Except DecodeError Instr
  | .pulse levels => decodePulse st levels
  | .master w => decodeMaster st w
  | .slave w => decodeSlave st w

/-! ### The rows of the table -/

/-- One M10 row of `opcode_table.json` (R61). -/
structure FrameRow where
  mnemonic : String
  state : TState
  value : BitVec 10
  mask : BitVec 10
deriving DecidableEq, Repr

/-- The M10 rows, in the table's order: "rows of one state are listed most specific first" (R61). -/
def frameRows : List FrameRow :=
  [⟨"START", .seekingStart, 0x2B4, 0x3FE⟩, ⟨"SKIP", .seekingStart, 0x000, 0x000⟩,
   ⟨"ADDR", .readingAddress, 0x000, 0x200⟩, ⟨"CTL_IN_ADDR", .readingAddress, 0x200, 0x200⟩,
   ⟨"RWID_WR", .readingRwId, 0x000, 0x300⟩, ⟨"RWID_RD", .readingRwId, 0x100, 0x300⟩,
   ⟨"CTL_IN_RWID", .readingRwId, 0x200, 0x200⟩, ⟨"WDATA", .writingData, 0x000, 0x200⟩,
   ⟨"END", .seekingEnd, 0x3FE, 0x3FE⟩, ⟨"BAD_END", .seekingEnd, 0x200, 0x200⟩]

/-- The row applies when the state is its state and `(w & mask) = match` (R61). -/
def FrameRow.applies (r : FrameRow) (st : TState) (w : BitVec 10) : Bool :=
  r.state == st && w &&& r.mask == r.value

/-- The mnemonic of the first row of the table that applies (R61). -/
def tableMnemonic (st : TState) (w : BitVec 10) : Option String :=
  (frameRows.find? fun r => r.applies st w).map FrameRow.mnemonic

/-! ### The encoder -/

/-- `w = CMD ++ D7..D0 ++ F` (R49). -/
def masterWord (c : Bool) (d : Byte) (f : Bool) : BitVec 10 :=
  BitVec.ofBool c ++ d ++ BitVec.ofBool f

/-- `w = D7..D0 ++ F` (R50). -/
def slaveWord (d : Byte) (f : Bool) : BitVec 9 :=
  d ++ BitVec.ofBool f

/-- The wire form of a symbol. A bit pulse is its nominal pattern (R46) and a trigger its one unit (R47); a bad pulse
has no form of its own, and the first example of R57 stands for it (DESIGN CHOICE, log entry 15). -/
def encode : Instr → Wire
  | .bit0 => .pulse [.low, .high, .high, .high, .high]
  | .bit1 => .pulse [.low, .low, .low, .low, .high]
  | .trigger => .pulse [.low]
  | .badPulse => .pulse [.low, .low, .high, .high, .high]
  | .start f => .master (masterWord true startValue f)
  | .skip c d f => .master (masterWord c d f)
  | .addr a f => .master (masterWord false a f)
  | .ctlInAddr d f => .master (masterWord true d f)
  | .rwidWr id f => .master (masterWord false (BitVec.ofBool false ++ id) f)
  | .rwidRd id f => .master (masterWord false (BitVec.ofBool true ++ id) f)
  | .ctlInRwid d f => .master (masterWord true d f)
  | .wdata d f => .master (masterWord false d f)
  | .endMark f => .master (masterWord true endValue f)
  | .badEnd d f => .master (masterWord true d f)
  | .rdata d f => .slave (slaveWord d f)

/-! ### A table word, read without a state

`opcode_table.json` numbers a row's bits in one number, and a frame word alone does not say which row it is: the state
does (R56, R60). The reading below fixes a state for each word (DESIGN CHOICE, log entry 12). -/

/-- The 5 levels of a U5 pattern written as a number, the first unit its most significant digit (R61). -/
def unitLevels (w : Nat) : List Level :=
  [4, 3, 2, 1, 0].map fun k => if w.testBit k then .high else .low

/-- The state in which a 10-bit word is read: START and END words (the table's most specific rows) in their own states,
every other word in READING_RW_ID, whose three rows take all words that remain (log entry 12). -/
def tableState (w : Nat) : TState :=
  if w / 2 = 0x15A then .seekingStart else if w / 2 = 0x1FF then .seekingEnd else .readingRwId

/-- State and wire form of a table word: of at most 8 bits, `0` is U1 and any other 5-bit number U5; of at most 16
bits, a 10-bit number is M10. -/
def tableWire (nbits w : Nat) : Option (TState × Wire) :=
  if nbits ≤ 8 then
    if w = 0 then some (.awaitingTrigger, .pulse [.low])
    else if w < 32 then some (.seekingStart, .pulse (unitLevels w)) else none
  else if nbits ≤ 16 then
    if w < 1024 then some (tableState w, .master (BitVec.ofNat 10 w)) else none
  else none

/-- The symbol the decoder reads from a table word. -/
def decodeTableWord (nbits w : Nat) : Option Instr :=
  match tableWire nbits w with
  | none => none
  | some (st, wire) =>
    match decode st wire with
    | .ok i => some i
    | .error _ => none

end Sys2Proof
end

