-- ==== Sys2Proof/Machine/State.lean ====
section
/-! DEFINITION. The registers of R10 with their reset values (R176), the configuration, the pins still to come, the
records on the ports and of the run; the ways a step can stop. -/

namespace Sys2Proof.Machine

/-! ### The pins and the input symbols -/

/-- The input pins at one clock edge (R140). -/
structure Pins where
  rst : Bool
  sv : Bool
  din : Level
  eos : Bool
deriving DecidableEq, Repr

/-- The one input symbol of a tick (R141); `ignored` is what any of the others is while `done = 1`. -/
inductive InSymbol where
  | reset
  | ignored
  | eos
  | sample (d : Level)
  | hold
deriving DecidableEq, Repr

/-! ### The records -/

/-- The five output ports (R38, R126). -/
inductive Row where
  | bits
  | bytes
  | master
  | slave
  | txn
deriving DecidableEq, Repr

/-- `outcome` and `kind` of a closed transaction (R131): OK, or ERROR with its kind. -/
inductive TxnOutcome where
  | ok
  | error (kind : ErrorKind)
deriving DecidableEq, Repr

/-- The payload of a TXN record (R131). -/
structure TxnInfo where
  outcome : TxnOutcome
  addr : Addr
  addrCnt : Fin 4
  rwId : Byte
  rwidValid : Bool
  dir : Bool
  dataCnt : Nat
deriving DecidableEq, Repr

/-- Row, class and payload of a record (R127 to R131). -/
inductive Payload where
  | bitsData (v : Bool)
  | bitsCmd (v : Bool)
  | bitsErr
  | byte (value : Byte) (hasCmd cmd framingOk : Bool)
  | masterStart
  | masterAddr (address : Addr)
  | masterRwid (value : Byte)
  | masterWdata (value : Byte)
  | masterTrigger
  | masterEnd
  | masterError (kind : ErrorKind) (value : Byte)
  | slaveRdata (value : Byte)
  | txn (info : TxnInfo)
deriving DecidableEq, Repr

/-- One event record, with the half-open span `[start, stop)` (R125). -/
structure Record where
  payload : Payload
  start : Pos
  stop : Pos
deriving DecidableEq, Repr

/-! ### The state -/

/-- The machine. The registers are those of R10, "the block's whole state"; `cfg` are the configuration inputs and
parameters (R7, R24); `input`, `out` and `trace` are the model's own fields for what stands outside the registers:
the pins at the clock edges still to come, the records on the ports in the tick just taken, and the records of the run
since the last Reset (log entries 2 and 3). -/
structure State where
  /-- Number of samples consumed; the position of the sample now arriving (R11). -/
  pos : Pos
  /-- 1 once the first sample has been taken (R12). -/
  primed : Bool
  /-- Level of the previous sample (R12). -/
  prev : Level
  /-- The EBC's phase (R13). -/
  phase : Phase
  /-- Position of the falling edge that opened the current pulse (R14). -/
  fallPos : Pos
  /-- Position of the rising edge inside the current pulse (R14). -/
  risePos : Pos
  /-- The transaction state (R15). -/
  state : TState
  /-- Bits already taken into the byte being assembled (R16); 10 to 15 are never held (U8). -/
  cnt : Fin 10
  /-- CMD bit of the MASTER byte being assembled (R17). -/
  cmd : Bool
  /-- Data bits taken so far (R17). -/
  sh : Byte
  /-- Start of the first bit of the byte being assembled (R18). -/
  byteStart : Pos
  /-- Address bytes received so far, first byte most significant (R19). -/
  addr : Addr
  /-- Number of address bytes received (R19). -/
  addrCnt : Fin 4
  /-- Start of the first address byte (R19). -/
  addrStart : Pos
  /-- The RW_ID byte (R20). -/
  rwId : Byte
  /-- 1 once the RW_ID byte of the open transaction has been received (R20). -/
  rwidValid : Bool
  /-- Direction: 1 READ, 0 WRITE (R20). -/
  dir : Bool
  /-- Number of data bytes of the open transaction, saturating (R21). -/
  dataCnt : Nat
  /-- Start of the START byte of the open transaction (R22). -/
  txnStart : Pos
  /-- Position at which AWAITING_TRIGGER was last entered (R22). -/
  waitStart : Pos
  /-- 1 after end of stream has been processed (R23). -/
  done : Bool
  /-- The configuration inputs and the model parameters (R7, R24). -/
  cfg : Config
  /-- The pins at the clock edges still to come, the next one first. -/
  input : List Pins
  /-- The records on the ports in the tick just taken, in the order made (R125, R133). -/
  out : List Record
  /-- The records of all ticks since the last Reset, in order (R125, R148). -/
  trace : List Record
deriving DecidableEq, Repr

/-- The state after reset (R10, R176). -/
def State.reset : State where
  pos := 0
  primed := false
  prev := .high
  phase := .waitFall
  fallPos := 0
  risePos := 0
  state := .idle
  cnt := 0
  cmd := false
  sh := 0
  byteStart := 0
  addr := 0
  addrCnt := 0
  addrStart := 0
  rwId := 0
  rwidValid := false
  dir := false
  dataCnt := 0
  txnStart := 0
  waitStart := 0
  done := false
  cfg := Config.initial
  input := []
  out := []
  trace := []

/-! ### The ways a step can stop -/

/-- No step of this machine faults: a protocol error is an entry that goes on (R157, R158), and "There are no
unrecoverable/fatal conditions within the core's own logic" (R159). The type is empty (log entry 10). -/
inductive Fault where
deriving DecidableEq, Repr

/-- What the spec gives no meaning to. Each refusal is safe: the model stops where the spec says nothing. -/
inductive Refusal where
  /-- Raised by `exec` for a symbol that has no meaning yet. No arm raises it. Safe. -/
  | notModelled (mnemonic : String)
  /-- Raised by a Sample or Eos tick under an illegal configuration (R24, R177, U4; log entry 6). Safe. -/
  | illegalConfiguration
  /-- Raised by the Sample tick that would make the capture 2^POS_W samples long (R11, U10; log entry 7). Safe. -/
  | captureTooLong
  /-- Raised by a bit of value 0 in AWAITING_TRIGGER: unreachable, "it must not give them a meaning" (R110, U12; log
  entry 8). Safe. -/
  | unreachableBit
  /-- Raised when a byte completes for which no row exists in this state (R56, R110, U12; log entry 8). Safe. -/
  | unreachableFrame
  /-- Raised by `exec` for a symbol in a state in which the table has no row for it (R56, R61; log entry 9). Safe. -/
  | outOfContext
  /-- Raised when a pulse symbol stands where a frame is expected: the decoder never makes one there (R56; log entry
  9). Safe. -/
  | notAFrame
deriving DecidableEq, Repr

end Sys2Proof.Machine
end

