-- ==== Sys2Proof/Machine/Flags.lean ====
section
/-! DEFINITION. The conditions the spec derives from the registers (R25 to R27) and its numeric codes (D21). -/

namespace Sys2Proof

/-- `shape` (R26). -/
def TState.shape : TState → Shape
  | .readingData => .slave
  | .idle => .master
  | .seekingStart => .master
  | .readingAddress => .master
  | .readingRwId => .master
  | .writingData => .master
  | .awaitingTrigger => .master
  | .seekingEnd => .master

/-- `txn_open` (R26, R101): the state is none of IDLE, SEEKING_START. -/
def TState.txnOpen : TState → Bool
  | .idle => false
  | .seekingStart => false
  | .readingAddress => true
  | .readingRwId => true
  | .writingData => true
  | .awaitingTrigger => true
  | .readingData => true
  | .seekingEnd => true

/-- The state codes (R15); 8 stands for the pseudo-state ERROR, which is never held. -/
def TState.code : TState → BitVec 4
  | .idle => 0
  | .seekingStart => 1
  | .readingAddress => 2
  | .readingRwId => 3
  | .writingData => 4
  | .awaitingTrigger => 5
  | .readingData => 6
  | .seekingEnd => 7

/-- The phase codes (R13). -/
def Phase.code : Phase → BitVec 2
  | .waitFall => 0
  | .inLow => 1
  | .inHigh => 2

/-- The error codes (R150); 0 means "no error". -/
def ErrorKind.code : ErrorKind → BitVec 3
  | .invalidBitEncoding => 1
  | .prematureEndOfStream => 2
  | .unexpectedControlByte => 3
  | .malformedEndMarker => 4
  | .missingTrigger => 5

end Sys2Proof

namespace Sys2Proof.Machine

/-- The row numbers (R38). -/
def Row.code : Row → Nat
  | .bits => 0
  | .bytes => 1
  | .master => 2
  | .slave => 3
  | .txn => 4

/-- The port a record leaves on (R127 to R131). -/
def Payload.row : Payload → Row
  | .bitsData _ => .bits
  | .bitsCmd _ => .bits
  | .bitsErr => .bits
  | .byte _ _ _ _ => .bytes
  | .masterStart => .master
  | .masterAddr _ => .master
  | .masterRwid _ => .master
  | .masterWdata _ => .master
  | .masterTrigger => .master
  | .masterEnd => .master
  | .masterError _ _ => .master
  | .slaveRdata _ => .slave
  | .txn _ => .txn

/-- The class codes of each row (R127 to R130). The TXN port has one class and the spec gives it no code (R131, D21): 0 is
the model's, DESIGN CHOICE, log entry 20. -/
def Payload.classCode : Payload → Nat
  | .bitsData _ => 0
  | .bitsCmd _ => 1
  | .bitsErr => 2
  | .byte _ _ _ _ => 0
  | .masterStart => 0
  | .masterAddr _ => 1
  | .masterRwid _ => 2
  | .masterWdata _ => 3
  | .masterTrigger => 4
  | .masterEnd => 5
  | .masterError _ _ => 6
  | .slaveRdata _ => 0
  | .txn _ => 0

/-- The port a record leaves on. -/
def Record.row (r : Record) : Row := r.payload.row

/-- `outcome`, 1 bit (R131): 0 OK, 1 ERROR. -/
def TxnOutcome.outcomeCode : TxnOutcome → BitVec 1
  | .ok => 0
  | .error _ => 1

/-- `kind`, 3 bits (R131): the error code, 0 when OK. -/
def TxnOutcome.kindCode : TxnOutcome → BitVec 3
  | .ok => 0
  | .error k => k.code

/-- `framing_ok` (R51, R89): the framing bit equals FRAMING_SENTINEL, which is 1. -/
def framingOk (f : Bool) : Bool := f == true

/-- The status outputs (R25). -/
structure Status where
  state : BitVec 4
  shape : Shape
  txnOpen : Bool
  done : Bool
  cnt : BitVec 4
deriving DecidableEq, Repr

/-- "all combinational copies of registers" (R25). -/
def State.status (s : State) : Status where
  state := s.state.code
  shape := s.state.shape
  txnOpen := s.state.txnOpen
  done := s.done
  cnt := BitVec.ofNat 4 s.cnt.val

end Sys2Proof.Machine
end

