-- ==== Sys2Proof/Machine/Operands.lean ====
section
/-! DEFINITION. The values the rules compute: unit counts and the idle test (R66, R67), edges (R71), the shift
registers (R88, R104), the open frame (R49, R50), the saturating counter (R21), the input symbol of a tick (R141). -/

namespace Sys2Proof.Machine

/-- `units(d) = floor((10 * BIT_RATE * d + SAMPLE_RATE) / (2 * SAMPLE_RATE))` (R66). -/
def units (c : Config) (d : Nat) : Nat :=
  (10 * c.bitRate * d + c.sampleRate) / (2 * c.sampleRate)

/-- `is_idle(d)`: longer than one bit period (R67). -/
def isIdle (c : Config) (d : Nat) : Bool :=
  decide (c.sampleRate < d * c.bitRate)

/-- `fall = (prev = 1 and d = 0)` (R71). -/
def fallEdge (prev d : Level) : Bool := prev == .high && d == .low

/-- `rise = (prev = 0 and d = 1)` (R71). -/
def riseEdge (prev d : Level) : Bool := prev == .low && d == .high

/-- LOW duration of the open pulse in units (R14, R66). -/
def State.lowUnits (s : State) : Nat := units s.cfg (s.risePos - s.fallPos)

/-- HIGH duration in samples up to the current position (R14). -/
def State.highSamples (s : State) : Nat := s.pos - s.risePos

/-- HIGH duration in units up to the current position. -/
def State.highUnits (s : State) : Nat := units s.cfg s.highSamples

/-- One data bit into `sh`: `sh[6:0] ++ v` (R88), or `v ++ sh[7:1]` with MSB_FIRST = 0 (D10). -/
def shiftIn (msbFirst : Bool) (sh : Byte) (v : Bool) : Byte :=
  if msbFirst then sh.extractLsb' 0 7 ++ BitVec.ofBool v else BitVec.ofBool v ++ sh.extractLsb' 1 7

/-- One address byte into `addr`: `addr[15:0] ++ value` (R104). -/
def shiftAddr (addr : Addr) (value : Byte) : Addr := addr.extractLsb' 0 16 ++ value

/-- `min(data_cnt + 1, 2^DATA_CNT_W - 1)` (R106, R111). -/
def satInc (c : Config) (n : Nat) : Nat := min (n + 1) (2 ^ c.dataCntW - 1)

/-- The frame that the bit `v` completes, in the shape of the current state (R49, R50, R89). -/
def State.frameWire (s : State) (v : Bool) : Wire :=
  match s.state.shape with
  | .master => .master (masterWord s.cmd s.sh v)
  | .slave => .slave (slaveWord s.sh v)

/-- A bit symbol by its value (R72). -/
def bitInstr (v : Bool) : Instr := if v then .bit1 else .bit0

/-- The input symbol of a tick, by priority: `rst`, `done`, `eos`, `sv` (R141). -/
def Pins.symbol (p : Pins) (done : Bool) : InSymbol :=
  if p.rst then .reset
  else if done then .ignored
  else if p.eos then .eos
  else if p.sv then .sample p.din
  else .hold

/-- The input symbol of the next tick. When the host presents nothing more, the tick is a Hold (R145; log entry 2). -/
def State.nextSymbol (s : State) : InSymbol :=
  match s.input with
  | [] => if s.done then .ignored else .hold
  | p :: _ => p.symbol s.done

end Sys2Proof.Machine
end

