-- ==== Sys2Proof/Machine/Ops.lean ====
section
/-! DEFINITION. The operations the rules share: emitting, closing a transaction (R114), the error entry (R157), the
idle event (R92), opening a pulse (R73, R75), and sequencing of outcomes. -/

namespace Sys2Proof.Machine

/-- The outcome of a part of a tick. -/
abbrev Result := Host.Outcome State Fault Refusal

/-- Do `o`, then `k` on the state it answers; a stop stays a stop. -/
def andThen (o : Result) (k : State → Result) : Result :=
  match o with
  | .next s => k s
  | .fault r => .fault r
  | .refused r => .refused r

/-- `Emit(row, class, payload, start, end)` appends one record to the output of the current tick (R125). -/
def emit (r : Record) (s : State) : State :=
  { s with out := s.out ++ [r] }

/-- The record of a closed transaction, from the current transaction registers (R114, R131). -/
def txnRecord (o : TxnOutcome) (stop : Pos) (s : State) : Record where
  payload := .txn
    { outcome := o, addr := s.addr, addrCnt := s.addrCnt, rwId := s.rwId, rwidValid := s.rwidValid, dir := s.dir,
      dataCnt := s.dataCnt }
  start := s.txnStart
  stop := stop

/-- The Bytes-row record of a byte that completes on this tick (R89, R128): from the start of its first bit to the
position of the tick. -/
def byteRecord (value : Byte) (hasCmd cmd f : Bool) (s : State) : Record where
  payload := .byte value hasCmd cmd (framingOk f)
  start := s.byteStart
  stop := s.pos

/-- The records of an error entry: the Master-row record, then the TXN record if a transaction is open (R157). -/
def errorRecords (k : ErrorKind) (start stop : Pos) (value : Byte) (s : State) : List Record :=
  ⟨.masterError k value, start, stop⟩ :: if s.state.txnOpen then [txnRecord (.error k) stop s] else []

/-- Taking an error, `raise K(start, stop, value)` (R157): report, close the open transaction, `cnt <- 0`,
`state <- SEEKING_START`. It is the body of the pseudo-state ERROR (R113). There is no return operation: the block is
then already decoding again (R158). -/
def raiseError (k : ErrorKind) (start stop : Pos) (value : Byte) (s : State) : State :=
  { s with out := s.out ++ errorRecords k start stop value s, cnt := 0, state := .seekingStart }

/-- `IdleEv` (R92): outside a transaction it drops the partial byte and goes to IDLE; otherwise nothing. -/
def idleEvent (s : State) : State :=
  { s with
    cnt := if s.state = .seekingStart then 0 else s.cnt
    state := if s.state = .seekingStart then .idle else s.state }

/-- A falling edge opens a pulse at the current position (R73, R75). -/
def openPulse (s : State) : State :=
  { s with fallPos := s.pos, phase := .inLow }

/-- No pulse is open. -/
def closePulse (s : State) : State :=
  { s with phase := .waitFall }

/-- The end of a Sample tick: `prev <- d ; pos <- pos + 1` (R71, R143 step 6). -/
def endSample (d : Level) (s : State) : State :=
  { s with prev := d, pos := s.pos + 1 }

/-- The start of a tick: the pins of this clock edge are taken, and the ports hold nothing yet (R125, R141). -/
def beginTick (s : State) : State :=
  { s with input := s.input.tail, out := [] }

/-- The end of a tick: its records join the output of the run (R125, R148). -/
def recordTrace (s : State) : State :=
  { s with trace := s.trace ++ s.out }

end Sys2Proof.Machine
end

