-- ==== Sys2Proof/Machine/Frames.lean ====
section
/-! DEFINITION. The meanings of the frame symbols: the Bytes-row record of the completed byte (R89), then the TFSM's
rule for it (R103 to R112). All of them read `byte_start` and end at the position of the tick. -/

namespace Sys2Proof.Machine

/-- A frame symbol exists only in the state of its row (R56, R61). -/
def inState (st : TState) (s : State) (k : State) : Result :=
  if s.state = st then .next k else .refused .outOfContext

/-- START in SEEKING_START (R103). That `addr_start` is cleared with `addr` and `addr_cnt` is R19's sentence ("All three are
cleared by a START byte"); the listings of R103 and R149 do not show it: DESIGN CHOICE, log entry 19. -/
def execStart (f : Bool) (s : State) : Result :=
  inState .seekingStart s
    { s with
      out := s.out ++ [byteRecord startValue true true f s, ⟨.masterStart, s.byteStart, s.pos⟩]
      txnStart := s.byteStart
      addr := 0
      addrCnt := 0
      addrStart := 0
      rwId := 0
      rwidValid := false
      dir := false
      dataCnt := 0
      state := .readingAddress }

/-- SKIP in SEEKING_START: any other byte is ignored (R58, R103). -/
def execSkip (c : Bool) (d : Byte) (f : Bool) (s : State) : Result :=
  inState .seekingStart s (emit (byteRecord d true c f s) s)

/-- ADDR in READING_ADDRESS (R104). Every right-hand side reads the registers as they were before the rule. -/
def execAddr (a : Byte) (f : Bool) (s : State) : Result :=
  let start := if s.addrCnt = 0 then s.byteStart else s.addrStart
  let address := shiftAddr s.addr a
  let last := s.addrCnt.val + 1 = s.cfg.addressBytes
  inState .readingAddress s
    { s with
      out := s.out ++ byteRecord a true false f s :: (if last then [⟨.masterAddr address, start, s.pos⟩] else [])
      addr := address
      addrCnt := s.addrCnt + 1
      addrStart := start
      state := if last then .readingRwId else .readingAddress }

/-- CTL_IN_ADDR in READING_ADDRESS: UnexpectedControlByte (R104, R153). -/
def execCtlInAddr (d : Byte) (f : Bool) (s : State) : Result :=
  inState .readingAddress s
    (raiseError .unexpectedControlByte s.byteStart s.pos d (emit (byteRecord d true true f s) s))

/-- The RW_ID byte with CMD 0 (R105): `rw_id`, `rwid_valid`, `dir` and the RWID record. -/
def takeRwid (value : Byte) (f : Bool) (s : State) : State :=
  { s with
    out := s.out ++ [byteRecord value true false f s, ⟨.masterRwid value, s.byteStart, s.pos⟩]
    rwId := value
    rwidValid := true
    dir := rwidDir value }

/-- RWID_WR in READING_RW_ID (R105): bit 7 of the value is 0. -/
def execRwidWr (id : BitVec 7) (f : Bool) (s : State) : Result :=
  inState .readingRwId s { takeRwid (BitVec.ofBool false ++ id) f s with state := .writingData }

/-- RWID_RD in READING_RW_ID (R105): bit 7 of the value is 1, and the wait for a trigger begins. -/
def execRwidRd (id : BitVec 7) (f : Bool) (s : State) : Result :=
  inState .readingRwId s
    { takeRwid (BitVec.ofBool true ++ id) f s with state := .awaitingTrigger, waitStart := s.pos }

/-- CTL_IN_RWID in READING_RW_ID: UnexpectedControlByte (R105, R153). -/
def execCtlInRwid (d : Byte) (f : Bool) (s : State) : Result :=
  inState .readingRwId s
    (raiseError .unexpectedControlByte s.byteStart s.pos d (emit (byteRecord d true true f s) s))

/-- WDATA in WRITING_DATA (R106). -/
def execWdata (d : Byte) (f : Bool) (s : State) : Result :=
  inState .writingData s
    { s with
      out := s.out ++ [byteRecord d true false f s, ⟨.masterWdata d, s.byteStart, s.pos⟩]
      dataCnt := satInc s.cfg s.dataCnt }

/-- END in SEEKING_END: the transaction closes with outcome OK (R112, R114). -/
def execEndMark (f : Bool) (s : State) : Result :=
  inState .seekingEnd s
    { s with
      out := s.out ++
        [byteRecord endValue true true f s, ⟨.masterEnd, s.byteStart, s.pos⟩, txnRecord .ok s.pos s]
      state := .idle }

/-- BAD_END in SEEKING_END: MalformedEndMarker (R112, R154). -/
def execBadEnd (d : Byte) (f : Bool) (s : State) : Result :=
  inState .seekingEnd s
    (raiseError .malformedEndMarker s.byteStart s.pos d (emit (byteRecord d true true f s) s))

/-- RDATA in READING_DATA (R111): the byte has no CMD bit, and the wait for the next trigger begins. -/
def execRdata (d : Byte) (f : Bool) (s : State) : Result :=
  inState .readingData s
    { s with
      out := s.out ++ [byteRecord d false false f s, ⟨.slaveRdata d, s.byteStart, s.pos⟩]
      dataCnt := satInc s.cfg s.dataCnt
      state := .awaitingTrigger
      waitStart := s.pos }

/-- The completed byte goes to the TFSM as the frame symbol it decodes to (R89, R100). -/
def runFrame (i : Instr) (s : State) : Result :=
  match i with
  | .bit0 => .refused .notAFrame
  | .bit1 => .refused .notAFrame
  | .trigger => .refused .notAFrame
  | .badPulse => .refused .notAFrame
  | .start f => execStart f s
  | .skip c d f => execSkip c d f s
  | .addr a f => execAddr a f s
  | .ctlInAddr d f => execCtlInAddr d f s
  | .rwidWr id f => execRwidWr id f s
  | .rwidRd id f => execRwidRd id f s
  | .ctlInRwid d f => execCtlInRwid d f s
  | .wdata d f => execWdata d f s
  | .endMark f => execEndMark f s
  | .badEnd d f => execBadEnd d f s
  | .rdata d f => execRdata d f s

/-- Decode the completed frame in the current state and run it; a frame that has no row is unreachable and gets no
meaning (R56, R110, U12). -/
def deliverFrame (wire : Wire) (s : State) : Result :=
  match decode s.state wire with
  | .ok i => runFrame i s
  | .error _ => .refused .unreachableFrame

end Sys2Proof.Machine
end

