-- ==== Sys2Proof/Machine/Pulses.lean ====
section
/-! DEFINITION. The meanings of the pulse symbols: the byte assembler's rules (R86 to R93), the early transition on a
CMD bit (R107) and the trigger (R108). The span of a pulse is `[fall_pos, pos)` (R77). -/

namespace Sys2Proof.Machine

/-- The first pulse symbol moves IDLE to SEEKING_START (R86). -/
def leaveIdle (st : TState) : TState :=
  if st = .idle then .seekingStart else st

/-- The common first step of a bit (R86): leave IDLE, and note the start of a new byte. -/
def arriveBit (s : State) : State :=
  { s with
    state := leaveIdle s.state
    byteStart := if s.cnt = 0 then s.fallPos else s.byteStart }

/-- The early transition on a CMD bit (R107). -/
def afterCmd (st : TState) (v : Bool) : TState :=
  if (st = .writingData ∨ st = .awaitingTrigger) ∧ v = true then .seekingEnd else st

/-- The CMD bit of a MASTER byte (R87). -/
def takeCmd (v : Bool) (s : State) : State :=
  { s with
    cmd := v
    out := s.out ++ [⟨.bitsCmd v, s.fallPos, s.pos⟩]
    cnt := 1
    state := afterCmd s.state v }

/-- A data bit (R88). -/
def takeData (v : Bool) (s : State) : State :=
  { s with
    sh := shiftIn s.cfg.msbFirst s.sh v
    out := s.out ++ [⟨.bitsData v, s.fallPos, s.pos⟩]
    cnt := s.cnt + 1 }

/-- The framing bit: its own record, then the completed byte goes to the TFSM (R89). -/
def takeFraming (v : Bool) (s : State) : Result :=
  deliverFrame (s.frameWire v) { s with out := s.out ++ [⟨.bitsData v, s.fallPos, s.pos⟩], cnt := 0 }

/-- Which of R87, R88, R89 a bit falls under: the shape and the count say (R16). -/
def assembleBit (v : Bool) (s : State) : Result :=
  match s.state.shape with
  | .master =>
    if s.cnt.val = 0 then .next (takeCmd v s)
    else if s.cnt.val ≤ 8 then .next (takeData v s)
    else takeFraming v s
  | .slave => if s.cnt.val ≤ 7 then .next (takeData v s) else takeFraming v s

/-- `Bit(v, fall_pos, pos)` (R86 to R89). -/
def onBit (v : Bool) (s : State) : Result :=
  assembleBit v (arriveBit s)

/-- BIT0. In AWAITING_TRIGGER a bit of value 0 is unreachable and gets no meaning (R110, U12). -/
def execBit0 (s : State) : Result :=
  if s.state = .awaitingTrigger then .refused .unreachableBit else onBit false s

/-- BIT1. -/
def execBit1 (s : State) : Result :=
  onBit true s

/-- BAD_PULSE: `Bad(fall_pos, pos)` (R91, R151). The Bits-row record always; the error entry only inside a
transaction, over the partial byte and the pulse, or the pulse alone; the partial byte is lost. -/
def execBadPulse (s : State) : Result :=
  let t := emit ⟨.bitsErr, s.fallPos, s.pos⟩ { s with state := leaveIdle s.state }
  if t.state.txnOpen then
    .next (raiseError .invalidBitEncoding (if t.cnt = 0 then t.fallPos else t.byteStart) t.pos 0 t)
  else .next { t with cnt := 0 }

/-- TRIGGER: `Trig(fall_pos, pos)` (R93, R108); made only in AWAITING_TRIGGER (R74, U12). -/
def execTrigger (s : State) : Result :=
  if s.state = .awaitingTrigger then
    .next { emit ⟨.masterTrigger, s.fallPos, s.pos⟩ s with state := .readingData }
  else .refused .outOfContext

end Sys2Proof.Machine
end

