-- ==== Sys2Proof/Machine/Dispatch.lean ====
section
/-! DEFINITION. The meaning of each symbol, one arm per row of `opcode_table.json`. -/

namespace Sys2Proof.Machine

def exec (i : Instr) (s : State) : Host.Outcome State Fault Refusal :=
  match i with
  | .bit0 => Sys2Proof.Machine.execBit0 s
  | .bit1 => Sys2Proof.Machine.execBit1 s
  | .trigger => Sys2Proof.Machine.execTrigger s
  | .badPulse => Sys2Proof.Machine.execBadPulse s
  | .start f => Sys2Proof.Machine.execStart f s
  | .skip c d f => Sys2Proof.Machine.execSkip c d f s
  | .addr a f => Sys2Proof.Machine.execAddr a f s
  | .ctlInAddr d f => Sys2Proof.Machine.execCtlInAddr d f s
  | .rwidWr id f => Sys2Proof.Machine.execRwidWr id f s
  | .rwidRd id f => Sys2Proof.Machine.execRwidRd id f s
  | .ctlInRwid d f => Sys2Proof.Machine.execCtlInRwid d f s
  | .wdata d f => Sys2Proof.Machine.execWdata d f s
  | .endMark f => Sys2Proof.Machine.execEndMark f s
  | .badEnd d f => Sys2Proof.Machine.execBadEnd d f s
  | .rdata d f => Sys2Proof.Machine.execRdata d f s

end Sys2Proof.Machine
end

