-- ==== Sys2Proof/Machine/Tick.lean ====
section
/-! DEFINITION. The tick (R141 to R145): the EBC's phase rules (R71 to R76), the end of stream (R144, R152), reset
(R175), and the placing of a table word where the next tick runs it. -/

namespace Sys2Proof.Machine

/-- The wait for a trigger has run out (R73, R155). -/
def triggerOverdue (s : State) : Bool :=
  s.state == .awaitingTrigger && decide (s.cfg.trigWait < s.pos - s.waitStart)

/-- Phase WAIT_FALL (R73): a falling edge opens a pulse and wins over the time-out (R160); a rising edge is ignored. -/
def waitFallRule (d : Level) (s : State) : Result :=
  if fallEdge s.prev d then .next (openPulse s)
  else if triggerOverdue s then .next (raiseError .missingTrigger s.waitStart s.pos 0 s)
  else .next s

/-- Phase IN_LOW (R74): at the rising edge a trigger is told from a bit. -/
def inLowRule (d : Level) (s : State) : Result :=
  if riseEdge s.prev d then
    if isTrigger s.state (units s.cfg (s.pos - s.fallPos)) then
      andThen (exec .trigger { s with risePos := s.pos }) fun t => .next (closePulse t)
    else .next { s with risePos := s.pos, phase := .inHigh }
  else .next s

/-- After the idle close: `IdleEv`, and a falling edge on the very tick opens the next pulse (R75 case 1). -/
def afterIdleClose (d : Level) (prev : Level) (s : State) : State :=
  if fallEdge prev d then openPulse (idleEvent s) else closePulse (idleEvent s)

/-- Phase IN_HIGH (R75): the idle close is tested first, then the close by a falling edge. -/
def inHighRule (d : Level) (s : State) : Result :=
  if isIdle s.cfg s.highSamples then
    andThen (exec (classifyIdle s.lowUnits) s) fun t => .next (afterIdleClose d s.prev t)
  else if fallEdge s.prev d then
    andThen (exec (classifyStrict s.lowUnits s.highUnits) s) fun t => .next (openPulse t)
  else .next s

/-- The rule of the phase held at the start of the tick (R143 step 3). -/
def phaseRule (d : Level) (s : State) : Result :=
  match s.phase with
  | .waitFall => waitFallRule d s
  | .inLow => inLowRule d s
  | .inHigh => inHighRule d s

/-- A `Sample(d)` tick (R143). The first sample only primes the edge detector (R71). An illegal configuration and a
capture of `2^POS_W` samples are refused (R11, R24). -/
def sampleTick (d : Level) (s : State) : Result :=
  if s.cfg.legal = false then .refused .illegalConfiguration
  else if 2 ^ s.cfg.posW ≤ s.pos + 1 then .refused .captureTooLong
  else if s.primed = false then .next (endSample d { s with primed := true })
  else andThen (phaseRule d s) fun t => .next (endSample d t)

/-- The bit that the end of stream closes, if its 5 units have passed (R76). -/
def eosSymbol (s : State) : Option Instr :=
  match s.phase with
  | .inHigh => classifyEos s.lowUnits s.highUnits
  | .inLow => none
  | .waitFall => none

/-- `mid_bit` (R76): a pulse is open and not complete. -/
def midBit (s : State) : Bool :=
  match s.phase with
  | .inHigh => (classifyEos s.lowUnits s.highUnits).isNone
  | .inLow => true
  | .waitFall => false

/-- The end-of-stream close (R76). -/
def eosClose (s : State) : Result :=
  match eosSymbol s with
  | some i => exec i s
  | none => .next s

/-- The start of the truncated unit: the partial byte, else the partial pulse, else the end (R152). -/
def truncatedStart (mid : Bool) (s : State) : Pos :=
  if 0 < s.cnt.val then s.byteStart else if mid then s.fallPos else s.pos

/-- The PrematureEndOfStream test and entry (R152). -/
def prematureEnd (mid : Bool) (s : State) : State :=
  if mid = true ∨ 0 < s.cnt.val ∨ s.state.txnOpen = true then
    raiseError .prematureEndOfStream (truncatedStart mid s) s.pos 0 s
  else s

/-- `cnt <- 0 ; phase <- WAIT_FALL ; done <- 1` (R144 step 3). -/
def finishStream (s : State) : State :=
  { s with cnt := 0, phase := .waitFall, done := true }

/-- The `Eos` tick (R144). -/
def eosTick (s : State) : Result :=
  if s.cfg.legal = false then .refused .illegalConfiguration
  else andThen (eosClose s) fun t => .next (finishStream (prematureEnd (midBit s) t))

/-- The `Reset` tick (R175): every register takes its reset value, no record is emitted, and a new run begins; the
configuration inputs are not registers and do not change, nor do the pins still to come. -/
def resetTick (s : State) : State :=
  { State.reset with cfg := s.cfg, input := s.input }

/-- The effect of the input symbol (R141). -/
def tickSymbol (sym : InSymbol) (s : State) : Result :=
  match sym with
  | .reset => .next (resetTick s)
  | .ignored => .next s
  | .eos => eosTick s
  | .sample d => sampleTick d s
  | .hold => .next s

/-- One tick: one input symbol is taken and its records leave (R141). -/
def tick (s : State) : Result :=
  andThen (tickSymbol s.nextSymbol (beginTick s)) fun t => .next (recordTrace t)

/-! ### Placing a symbol where the next tick runs it (log entry 13) -/

/-- The number of samples nearest to `k` units (R8). -/
def nominalSamples (c : Config) (k : Nat) : Nat :=
  (2 * k * c.sampleRate + 5 * c.bitRate) / (10 * c.bitRate)

/-- The pins of one sample. -/
def samplePins (d : Level) : Pins where
  rst := false
  sv := true
  din := d
  eos := false

/-- An open pulse of `l` units LOW and `h` units HIGH, and a falling edge on the next sample, which closes it. -/
def State.withPulse (s : State) (l h : Nat) : State :=
  { s with
    primed := true
    done := false
    prev := .high
    phase := .inHigh
    fallPos := s.pos
    risePos := s.pos + nominalSamples s.cfg l
    pos := s.pos + nominalSamples s.cfg l + nominalSamples s.cfg h
    input := samplePins .low :: s.input }

/-- An open LOW phase of `l` units, and a rising edge on the next sample, which ends it. -/
def State.withLow (s : State) (l : Nat) : State :=
  { s with
    primed := true
    done := false
    prev := .low
    phase := .inLow
    fallPos := s.pos
    pos := s.pos + nominalSamples s.cfg l
    input := samplePins .high :: s.input }

/-- The pulse of the bit `v`, about to close. -/
def State.withBit (s : State) (v : Bool) : State :=
  if v then s.withPulse 4 1 else s.withPulse 1 4

/-- The wire form of a symbol, received up to the sample before the one that completes it, in the state `st`: for a
frame, all bits but the framing bit stand in `cmd`, `sh` and `cnt`, and the framing bit's pulse is about to close. -/
def State.withWire (s : State) (st : TState) (wire : Wire) : State :=
  match wire with
  | .pulse levels =>
    if (afterLow levels).length = 0 then { s.withLow (lowRun levels) with state := st }
    else { s.withPulse (lowRun levels) (afterLow levels).length with state := st }
  | .master w =>
    { s.withBit (masterFraming w) with state := st, cnt := 9, cmd := masterCmd w, sh := masterValue w }
  | .slave w => { s.withBit (slaveFraming w) with state := st, cnt := 8, sh := slaveValue w }

end Sys2Proof.Machine
end

