-- ==== Sys2Proof/Machine/Step.lean ====
section
/-! DEFINITION. One step is one tick (R141); a table word placed where the next tick runs it. -/

namespace Sys2Proof.Machine

/-- One step: the tick of the next clock edge. -/
def step (s : State) : Host.Outcome State Fault Refusal := tick s

/-- The symbol of a table word, received up to its last sample, so that the next step completes and runs it (log
entry 13). A word that is no row's changes nothing. -/
def State.withFetchWord (s : State) (nbits w : Nat) : State :=
  match tableWire nbits w with
  | some (st, wire) => s.withWire st wire
  | none => s

end Sys2Proof.Machine
end

