-- ==== Sys2Proof/Safety.lean ====
section
/-! DEFINITION. What claims speak of: completion, the invariants of the registers (R29) and of the records (R134), and
runs of symbols. -/

namespace Sys2Proof

/-- A frame symbol with another framing bit; a pulse symbol has none (R56). -/
def Instr.withFraming (f : Bool) : Instr → Instr
  | .bit0 => .bit0
  | .bit1 => .bit1
  | .trigger => .trigger
  | .badPulse => .badPulse
  | .start _ => .start f
  | .skip c d _ => .skip c d f
  | .addr a _ => .addr a f
  | .ctlInAddr d _ => .ctlInAddr d f
  | .rwidWr id _ => .rwidWr id f
  | .rwidRd id _ => .rwidRd id f
  | .ctlInRwid d _ => .ctlInRwid d f
  | .wdata d _ => .wdata d f
  | .endMark _ => .endMark f
  | .badEnd d _ => .badEnd d f
  | .rdata d _ => .rdata d f

/-- The symbol is a frame, not a pulse (R56). -/
def Instr.isFrame : Instr → Bool
  | .bit0 => false
  | .bit1 => false
  | .trigger => false
  | .badPulse => false
  | .start _ => true
  | .skip _ _ _ => true
  | .addr _ _ => true
  | .ctlInAddr _ _ => true
  | .rwidWr _ _ => true
  | .rwidRd _ _ => true
  | .ctlInRwid _ _ => true
  | .wdata _ _ => true
  | .endMark _ => true
  | .badEnd _ _ => true
  | .rdata _ _ => true

end Sys2Proof

namespace Sys2Proof.Machine

/-- The outcome is a next state: neither a fault nor a refusal. -/
def Completes (o : Result) : Prop := ∃ t, o = .next t

/-- The state an outcome answers, for tests. -/
def nextState? (o : Result) : Option State :=
  match o with
  | .next t => some t
  | .fault _ => none
  | .refused _ => none

/-- The refusal an outcome answers, for tests. -/
def refusal? (o : Result) : Option Refusal :=
  match o with
  | .next _ => none
  | .fault _ => none
  | .refused r => some r

/-- The invariants of R29 (I-1 holds by the type of `state`; the first half of I-2 by that of `cnt`), with what they
need to be kept by every step and the facts of R11, R19, R20 and R21 about single registers. -/
structure Inv (s : State) : Prop where
  /-- I-2. -/
  slaveCnt : s.state = .readingData → s.cnt.val ≤ 8
  /-- I-3. -/
  idleCnt : s.state = .idle → s.cnt = 0
  /-- I-4. -/
  awaitCnt : s.state = .awaitingTrigger → s.cnt = 0
  /-- I-5. -/
  endCmd : s.state = .seekingEnd → 1 ≤ s.cnt.val ∧ s.cmd = true
  /-- I-6. -/
  writeCmd : s.state = .writingData → 1 ≤ s.cnt.val → s.cmd = false
  /-- I-7, first half. -/
  addrLe : s.addrCnt.val ≤ s.cfg.addressBytes
  /-- I-7, second half: every open state but READING_ADDRESS has the whole address. -/
  addrFull : s.state.txnOpen = true → s.state ≠ .readingAddress → s.addrCnt.val = s.cfg.addressBytes
  /-- READING_ADDRESS still wants a byte (R104). -/
  addrMore : s.state = .readingAddress → s.addrCnt.val < s.cfg.addressBytes
  /-- I-8. -/
  lowOrder : s.phase = .inLow → s.fallPos ≤ s.pos
  /-- I-8. -/
  highOrder : s.phase = .inHigh → s.fallPos ≤ s.risePos ∧ s.risePos ≤ s.pos
  /-- I-9. -/
  lowPrev : s.phase = .inLow → s.prev = .low
  /-- I-9. -/
  highPrev : s.phase = .inHigh → s.prev = .high
  /-- A pulse is open only once a sample has been taken (R71). -/
  openPrimed : s.phase ≠ .waitFall → s.primed = true
  /-- In AWAITING_TRIGGER a LOW of 1 unit became a trigger at its rising edge (R74, R110). -/
  noLateTrigger : s.state = .awaitingTrigger → s.phase = .inHigh → s.lowUnits ≠ 1
  /-- Only the address bytes received so far are in `addr` (R19). -/
  addrWidth : s.addr.toNat < 256 ^ s.addrCnt.val
  /-- `dir = rw_id[7]` once the RW_ID byte is in (R20). -/
  dirBit : s.rwidValid = true → s.dir = rwidDir s.rwId
  /-- `data_cnt` saturates (R21). -/
  dataWidth : s.dataCnt ≤ 2 ^ s.cfg.dataCntW - 1
  /-- The capture is shorter than `2^POS_W` samples (R11). -/
  posWidth : s.pos < 2 ^ s.cfg.posW

/-- Two records of one run, the first emitted before the second: ends do not decrease, and on one port the spans do
not overlap (R134 (a) and (b)). -/
def Follows (r q : Record) : Prop :=
  r.stop ≤ q.stop ∧ (r.row = q.row → r.stop ≤ q.start)

/-- The spans of the run's records (R134), and where the starts of the records still to come stand. -/
structure SpanInv (s : State) : Prop where
  /-- R134 (a) and (b), for every pair of records of the run. -/
  ordered : s.trace.Pairwise Follows
  /-- `start <= end` (R125), and no record ends later than the current position (R39 (d)). -/
  bounded : ∀ r ∈ s.trace, r.start ≤ r.stop ∧ r.stop ≤ s.pos
  /-- Every record so far ends before the pulse now open begins. -/
  beforePulse : s.phase ≠ .waitFall → s.fallPos ≤ s.pos ∧ ∀ r ∈ s.trace, r.stop ≤ s.fallPos
  /-- Every record above the Bits row ends before the byte now open begins. -/
  beforeByte : s.cnt ≠ 0 → s.byteStart ≤ s.pos ∧ (s.phase ≠ .waitFall → s.byteStart ≤ s.fallPos) ∧
    ∀ r ∈ s.trace, r.row ≠ .bits → r.stop ≤ s.byteStart
  /-- Every Master record ends before the address now being read begins. -/
  beforeAddr : s.state = .readingAddress → s.addrCnt ≠ 0 → s.addrStart ≤ s.pos ∧
    ∀ r ∈ s.trace, r.row = .master → r.stop ≤ s.addrStart
  /-- Every Master record ends before the wait for a trigger begins. -/
  beforeWait : s.state = .awaitingTrigger → s.waitStart ≤ s.pos ∧
    ∀ r ∈ s.trace, r.row = .master → r.stop ≤ s.waitStart
  /-- Every TXN record ends before the open transaction begins. -/
  beforeTxn : s.state.txnOpen = true → s.txnStart ≤ s.pos ∧
    ∀ r ∈ s.trace, r.row = .txn → r.stop ≤ s.txnStart

/-- A START record (R103). -/
def Record.isStart (r : Record) : Bool := r.payload == .masterStart

/-- A record of the TXN port (R114). -/
def Record.isTxn (r : Record) : Bool := r.row == .txn

/-- A Master-row ERROR record (R157). -/
def Record.isError (r : Record) : Bool :=
  match r.payload with
  | .masterError _ _ => true
  | _ => false

/-- The records that close a transaction balance those that open one, but for the transaction now open (R101). -/
def TxnBalanced (s : State) : Prop :=
  s.trace.countP Record.isStart = s.trace.countP Record.isTxn + (if s.state.txnOpen then 1 else 0)

/-- A record without its `framing_ok` field. -/
def Record.forgetFraming (r : Record) : Record :=
  match r.payload with
  | .byte value hasCmd cmd _ => { r with payload := .byte value hasCmd cmd true }
  | _ => r

/-- The symbols of the list, one after the other. -/
def runSymbols : List Instr → State → Result
  | [], s => .next s
  | i :: rest, s => andThen (exec i s) (runSymbols rest)

/-- `k` ticks, stopping at the first refusal. -/
def runTicks : Nat → State → Result
  | 0, s => .next s
  | k + 1, s => andThen (step s) (runTicks k)

/-- The pins of a Hold tick (R141, R145). -/
def Pins.isHold (p : Pins) : Bool := !p.rst && !p.eos && !p.sv

/-- The eight bits of a value, the most significant first (R49). -/
def bitsMsbFirst (d : Byte) : List Bool :=
  [d.getLsbD 7, d.getLsbD 6, d.getLsbD 5, d.getLsbD 4, d.getLsbD 3, d.getLsbD 2, d.getLsbD 1, d.getLsbD 0]

/-- The ten bit symbols of a MASTER frame in order of arrival, most significant data bit first (R49). -/
def masterBits (c : Bool) (d : Byte) (f : Bool) : List Instr :=
  (c :: bitsMsbFirst d ++ [f]).map bitInstr

/-- The nine bit symbols of a SLAVE frame in order of arrival (R50). -/
def slaveBits (d : Byte) (f : Bool) : List Instr :=
  (bitsMsbFirst d ++ [f]).map bitInstr

/-- The pulses of a write transaction (R52): START, the address bytes, RW_ID, the data bytes, END; each byte with its
framing bit. -/
def writeTransaction (address : List (Byte × Bool)) (id : BitVec 7) (data : List (Byte × Bool)) (f g h : Bool) :
    List Instr :=
  masterBits true startValue f ++ address.flatMap (fun p => masterBits false p.1 p.2) ++
    masterBits false (BitVec.ofBool false ++ id) g ++ data.flatMap (fun p => masterBits false p.1 p.2) ++
    masterBits true endValue h

/-- The pulses of a read transaction (R53): as a write, but each data byte is a trigger and a SLAVE frame. -/
def readTransaction (address : List (Byte × Bool)) (id : BitVec 7) (data : List (Byte × Bool)) (f g h : Bool) :
    List Instr :=
  masterBits true startValue f ++ address.flatMap (fun p => masterBits false p.1 p.2) ++
    masterBits false (BitVec.ofBool true ++ id) g ++ data.flatMap (fun p => .trigger :: slaveBits p.1 p.2) ++
    masterBits true endValue h

/-- The value of the address bytes, the first most significant (R33). -/
def addressValue (address : List (Byte × Bool)) : Nat :=
  address.foldl (fun n p => 256 * n + p.1.toNat) 0

/-- The value of a WDATA or RDATA record (R129, R130). -/
def Record.dataValue? (r : Record) : Option Byte :=
  match r.payload with
  | .masterWdata d => some d
  | .slaveRdata d => some d
  | _ => none

end Sys2Proof.Machine
end

