-- ==== Sys2Proof/Certificates/Slice0/Obligations.lean ====
section
/-! DEFINITION. The statements for the provers, in the order of the spec's files. `Completes` and the equations
`… = .next …` say where a symbol or a tick completes; every field not named in such an equation is unchanged. -/

open Sys2Proof Sys2Proof.Machine

/-! ### Reset and the input symbols -/

/-- R176: the state after reset, complete, with its derived values. -/
def Obligations.ResetStateValues : Prop :=
  State.reset.pos = 0 ∧ State.reset.primed = false ∧ State.reset.prev = .high ∧ State.reset.phase = .waitFall ∧
  State.reset.fallPos = 0 ∧ State.reset.risePos = 0 ∧ State.reset.state = .idle ∧ State.reset.state.code = 0 ∧
  State.reset.cnt = 0 ∧ State.reset.cmd = false ∧ State.reset.sh = 0 ∧ State.reset.byteStart = 0 ∧
  State.reset.addr = 0 ∧ State.reset.addrCnt = 0 ∧ State.reset.addrStart = 0 ∧ State.reset.rwId = 0 ∧
  State.reset.rwidValid = false ∧ State.reset.dir = false ∧ State.reset.dataCnt = 0 ∧ State.reset.txnStart = 0 ∧
  State.reset.waitStart = 0 ∧ State.reset.done = false ∧ State.reset.state.shape = .master ∧
  State.reset.state.txnOpen = false

/-- R26, R25: `shape` and `txn_open` are functions of `state`, and the status outputs copy the registers. -/
def Obligations.StatusOutputsCopyRegisters : Prop :=
  (∀ (st : TState), (st.shape = .slave ↔ st = .readingData) ∧ (st.shape = .master ↔ st ≠ .readingData) ∧
    (st.txnOpen = true ↔ st = .readingAddress ∨ st = .readingRwId ∨ st = .writingData ∨ st = .awaitingTrigger ∨
      st = .readingData ∨ st = .seekingEnd)) ∧
  (∀ (s : State), s.status.state = s.state.code ∧ s.status.state.toNat ≤ 7 ∧ s.status.shape = s.state.shape ∧
    s.status.txnOpen = s.state.txnOpen ∧ s.status.done = s.done ∧ s.status.cnt.toNat = s.cnt.val)

/-- R175: with `rst = 1`, whatever the other pins and the configuration are and whatever was open, every register takes
its reset value, no record is emitted and the configuration does not change. (What becomes of `input` and `trace`, the
model's own fields, is left out.) -/
def Obligations.ResetTickRestoresRegisters : Prop :=
  ∀ (s : State) (p : Pins) (rest : List Pins), s.input = p :: rest → p.rst = true →
    ∃ t, step s = .next t ∧ t = { State.reset with cfg := s.cfg, input := t.input, trace := t.trace } ∧ t.out = []

/-- R23: `done` is set by the Eos tick and cleared only by Reset; while `done = 1` every tick but Reset changes no register
and emits nothing. -/
def Obligations.DoneIgnoresAllButReset : Prop :=
  (∀ (s : State), s.done = true → s.nextSymbol ≠ .reset →
    ∃ t, step s = .next t ∧ t = { s with input := t.input, out := [] }) ∧
  (∀ (s t : State), step s = .next t →
    (t.done = true ↔ s.nextSymbol = .eos ∨ s.done = true ∧ s.nextSymbol ≠ .reset))

/-- R145: with `sv = 0`, `eos = 0`, `rst = 0` no register changes and nothing is emitted, under any configuration. -/
def Obligations.HoldChangesNothing : Prop :=
  ∀ (s : State) (p : Pins) (rest : List Pins), s.input = p :: rest → p.rst = false → p.eos = false → p.sv = false →
    step s = .next { s with input := rest, out := [] }

/-- R141: `eos` together with `sv` is Eos: whatever `sv` and `din` are, the tick is the same and `pos` stays. -/
def Obligations.EosWinsOverSample : Prop :=
  ∀ (s : State) (p q : Pins) (rest : List Pins), s.done = false →
    p.rst = false → q.rst = false → p.eos = true → q.eos = true →
    step { s with input := p :: rest } = step { s with input := q :: rest } ∧
    ∀ t, step { s with input := p :: rest } = .next t → t.pos = s.pos

/-- R71: the first sample only primes the edge detector. -/
def Obligations.FirstSampleOnlyPrimes : Prop :=
  ∀ (s : State) (d : Level), s.nextSymbol = .sample d → s.primed = false → s.cfg.legal = true → s.pos + 1 < 2 ^ s.cfg.posW →
    step s = .next { s with prev := d, primed := true, pos := s.pos + 1, input := s.input.tail, out := [] }

/-- R11 and R144: a Sample tick advances `pos` by one, Reset clears it, every other tick leaves it; R175, R181: no tick
changes the configuration. R125, R148: the records of every tick but Reset join the output of the run. The last conjuncts
speak of the model's own fields (log entries 2 and 3). -/
def Obligations.TickMovesPositionAndPins : Prop :=
  ∀ (s t : State), step s = .next t →
    t.pos = (match s.nextSymbol with
      | .reset => 0
      | .sample _ => s.pos + 1
      | .ignored => s.pos
      | .eos => s.pos
      | .hold => s.pos) ∧
    t.cfg = s.cfg ∧ t.input = s.input.tail ∧ (s.nextSymbol ≠ .reset → t.trace = s.trace ++ t.out)

/-- The model's reading of R24, R177 and R11 (log entries 6 and 7): a Sample or Eos tick under an illegal configuration
is refused, and so is the sample that would make the capture `2^POS_W` samples long. -/
def Obligations.OutsideTheContractIsRefused : Prop :=
  (∀ (s : State), s.cfg.legal = false → (s.nextSymbol = .eos ∨ ∃ d, s.nextSymbol = .sample d) →
    step s = .refused .illegalConfiguration) ∧
  (∀ (s : State) (d : Level), s.cfg.legal = true → s.nextSymbol = .sample d → 2 ^ s.cfg.posW ≤ s.pos + 1 →
    step s = .refused .captureTooLong)

/-! ### The edge-to-bit classifier -/

/-- R66: `units` and its comparison form. -/
def Obligations.UnitsIsTheNearestCount : Prop :=
  ∀ (c : Config) (d : Nat), c.legal = true →
    units c d = (10 * c.bitRate * d + c.sampleRate) / (2 * c.sampleRate) ∧
    (∀ k, 1 ≤ k → (units c d = k ↔
      (2 * k - 1) * c.sampleRate ≤ 10 * c.bitRate * d ∧ 10 * c.bitRate * d < (2 * k + 1) * c.sampleRate)) ∧
    (units c d = 0 ↔ 10 * c.bitRate * d < c.sampleRate)

/-- R67: `is_idle` is "longer than one bit period"; so it first holds `floor(SAMPLE_RATE / BIT_RATE) + 1` samples after the
rising edge, and from then on (R75). -/
def Obligations.IdleThresholdInSamples : Prop :=
  ∀ (c : Config) (h : Nat), c.legal = true →
    (isIdle c h = true ↔ c.sampleRate < h * c.bitRate) ∧ (isIdle c h = true ↔ c.sampleRate / c.bitRate + 1 ≤ h)

/-- R68, R69: the classification of a pulse by its unit counts, closed by a falling edge or by the idle rule. -/
def Obligations.PulseClassification : Prop :=
  ∀ (l h : Nat),
    (classifyStrict l h = .bit0 ↔ l = 1 ∧ h = 4) ∧ (classifyStrict l h = .bit1 ↔ l = 4 ∧ h = 1) ∧
    (classifyStrict l h = .badPulse ↔ ¬(l = 1 ∧ h = 4) ∧ ¬(l = 4 ∧ h = 1)) ∧
    (classifyIdle l = .bit0 ↔ l = 1) ∧ (classifyIdle l = .bit1 ↔ l = 4) ∧
    (classifyIdle l = .badPulse ↔ l ≠ 1 ∧ l ≠ 4)

/-- R73: in WAIT_FALL a falling edge opens a pulse at the position of the sample that shows it, even on the very tick of
the time-out (R160), and emits nothing. -/
def Obligations.FallingEdgeOpensPulse : Prop :=
  ∀ (s : State), s.nextSymbol = .sample .low → s.primed = true → s.prev = .high → s.cfg.legal = true →
    s.pos + 1 < 2 ^ s.cfg.posW → s.phase = .waitFall →
    step s = .next { s with fallPos := s.pos, phase := .inLow, prev := .low, pos := s.pos + 1, input := s.input.tail,
                            out := [] }

/-- R74: a rising edge in IN_LOW that is no trigger goes on as an ordinary pulse. -/
def Obligations.RisingEdgeGoesOn : Prop :=
  ∀ (s : State), s.nextSymbol = .sample .high → s.primed = true → s.prev = .low → s.cfg.legal = true →
    s.pos + 1 < 2 ^ s.cfg.posW → s.phase = .inLow →
    ¬(s.state = .awaitingTrigger ∧ units s.cfg (s.pos - s.fallPos) = 1) →
    step s = .next { s with risePos := s.pos, phase := .inHigh, prev := .high, pos := s.pos + 1, input := s.input.tail,
                            out := [] }

/-- R73, R74, R75, R78: a Sample tick on which the phase rule finds nothing to do is quiet: in WAIT_FALL with a rising edge
or none and the trigger's wait not exceeded, in IN_LOW without a rising edge, in IN_HIGH neither idle nor at a falling
edge. Only `prev` and `pos` move, and nothing is emitted. -/
def Obligations.QuietSampleChangesNothing : Prop :=
  ∀ (s : State) (d : Level), s.nextSymbol = .sample d → s.primed = true → s.cfg.legal = true →
    s.pos + 1 < 2 ^ s.cfg.posW →
    (s.phase = .waitFall ∧ ¬(s.prev = .high ∧ d = .low) ∧
        ¬(s.state = .awaitingTrigger ∧ s.cfg.trigWait < s.pos - s.waitStart) ∨
      s.phase = .inLow ∧ ¬(s.prev = .low ∧ d = .high) ∨
      s.phase = .inHigh ∧ isIdle s.cfg s.highSamples = false ∧ ¬(s.prev = .high ∧ d = .low)) →
    step s = .next { s with prev := d, pos := s.pos + 1, input := s.input.tail, out := [] }

/-- R75 case 2, R143: when a falling edge closes a pulse that has not run into idle, the tick runs the symbol that
`classify_strict` reads from its unit counts; then the edge opens the next pulse and the position advances. -/
def Obligations.StepRunsEdgeClosedPulse : Prop :=
  ∀ (s : State), s.nextSymbol = .sample .low → s.primed = true → s.prev = .high → s.cfg.legal = true →
    s.pos + 1 < 2 ^ s.cfg.posW → s.phase = .inHigh → isIdle s.cfg s.highSamples = false →
    step s = andThen (exec (classifyStrict s.lowUnits s.highUnits) (beginTick s)) fun t =>
      .next { t with fallPos := t.pos, phase := .inLow, prev := .low, pos := t.pos + 1, trace := t.trace ++ t.out }

/-- R75 case 1, R92, R143: when the HIGH phase has become idle, the tick runs the symbol that `classify_idle` reads,
then `IdleEv` (outside a transaction the partial byte is dropped and the state is IDLE; otherwise nothing), and only
then opens the pulse of a falling edge on the same tick. -/
def Obligations.StepRunsIdleClosedPulse : Prop :=
  ∀ (s : State) (d : Level), s.nextSymbol = .sample d → s.primed = true → s.prev = .high → s.cfg.legal = true →
    s.pos + 1 < 2 ^ s.cfg.posW → s.phase = .inHigh → isIdle s.cfg s.highSamples = true →
    step s = andThen (exec (classifyIdle s.lowUnits) (beginTick s)) fun t =>
      .next { t with
        cnt := if t.state = .seekingStart then 0 else t.cnt
        state := if t.state = .seekingStart then .idle else t.state
        fallPos := if s.prev = .high ∧ d = .low then t.pos else t.fallPos
        phase := if s.prev = .high ∧ d = .low then .inLow else .waitFall
        prev := d
        pos := t.pos + 1
        trace := t.trace ++ t.out }

/-- R74, R143: in AWAITING_TRIGGER the rising edge that ends a LOW of 1 unit runs TRIGGER, and the HIGH that follows is
not measured. -/
def Obligations.StepRunsTrigger : Prop :=
  ∀ (s : State), s.nextSymbol = .sample .high → s.primed = true → s.prev = .low → s.cfg.legal = true →
    s.pos + 1 < 2 ^ s.cfg.posW → s.phase = .inLow → s.state = .awaitingTrigger →
    units s.cfg (s.pos - s.fallPos) = 1 →
    step s = andThen (exec .trigger { beginTick s with risePos := s.pos }) fun t =>
      .next { t with phase := .waitFall, prev := .high, pos := t.pos + 1, trace := t.trace ++ t.out }

/-- R76, R144, R152: on the Eos tick a pulse whose 5 units have passed runs as its symbol; then PrematureEndOfStream is
raised exactly if a byte or a transaction is still open, and the block is done. -/
def Obligations.StepRunsPulseAtEos : Prop :=
  ∀ (s : State) (i : Instr), s.nextSymbol = .eos → s.cfg.legal = true → s.phase = .inHigh →
    (i = .bit0 ∧ s.lowUnits = 1 ∧ 4 ≤ s.highUnits ∨ i = .bit1 ∧ s.lowUnits = 4 ∧ 1 ≤ s.highUnits) →
    step s = andThen (exec i (beginTick s)) fun t =>
      if t.cnt ≠ 0 ∨ t.state.txnOpen = true then
        .next { t with
          out := t.out ++ ⟨.masterError .prematureEndOfStream 0, if t.cnt ≠ 0 then t.byteStart else t.pos, t.pos⟩ ::
            (if t.state.txnOpen then [txnRecord (.error .prematureEndOfStream) t.pos t] else [])
          trace := t.trace ++ (t.out ++
            ⟨.masterError .prematureEndOfStream 0, if t.cnt ≠ 0 then t.byteStart else t.pos, t.pos⟩ ::
            (if t.state.txnOpen then [txnRecord (.error .prematureEndOfStream) t.pos t] else []))
          cnt := 0
          state := .seekingStart
          phase := .waitFall
          done := true }
      else .next { t with cnt := 0, phase := .waitFall, done := true, trace := t.trace ++ t.out }

/-! ### Decoding and encoding -/

/-- Decode inverts encode, for every well-formed symbol in every state in which the table has its row. The pattern that
stands for BAD_PULSE is the model's choice (log entry 15). -/
def Obligations.DecodeInvertsEncode : Prop :=
  ∀ (i : Instr) (st : TState), i.wellFormed = true → i.legalIn st = true → decode st (encode i) = .ok i

/-- What the decoder reads is well formed, legal in the state, and for a frame encodes to the very word read. -/
def Obligations.DecodedSymbolEncodesBack : Prop :=
  ∀ (st : TState) (x : Wire) (i : Instr), decode st x = .ok i →
    i.wellFormed = true ∧ i.legalIn st = true ∧ (i.isFrame = true → encode i = x)

/-- R61: the MASTER frame decoder agrees with the first row of the table that applies, in every state and for every
word; where no row applies it rejects. -/
def Obligations.DecoderFollowsTheTable : Prop :=
  ∀ (st : TState) (w : BitVec 10), (decodeMaster st w).toOption.map Instr.mnemonic = tableMnemonic st w

/-- Words written out from the spec's encodings (30_encoding.md R46, R47, R49, R50; frame words of 95_test_vectors.md)
decode to the symbols they stand for. -/
def Obligations.SpecWordsDecode : Prop :=
  decode .seekingStart (.master 0x2B5) = .ok (.start true) ∧
  decode .readingAddress (.master 0x00D) = .ok (.addr 0x06 true) ∧
  decode .readingRwId (.master 0x107) = .ok (.rwidRd 3 true) ∧
  decode .writingData (.master 0x00B) = .ok (.wdata 0x05 true) ∧
  decode .seekingEnd (.master 0x3FF) = .ok (.endMark true) ∧
  decode .readingData (.slave 0x14B) = .ok (.rdata 0xA5 true) ∧
  decode .awaitingTrigger (.pulse [.low]) = .ok .trigger ∧
  decode .seekingStart (.pulse [.low, .high, .high, .high, .high]) = .ok .bit0

/-! ### The byte assembler -/

/-- R86, R87, R107: the first bit of a MASTER byte is its CMD bit. It leaves IDLE, notes the start of the byte, and in
WRITING_DATA and AWAITING_TRIGGER a 1 moves on to SEEKING_END. A CMD bit of 0 in AWAITING_TRIGGER is unreachable. -/
def Obligations.CmdBitResult : Prop :=
  ∀ (s : State) (v : Bool), s.cnt = 0 → s.state.shape = .master → ¬(s.state = .awaitingTrigger ∧ v = false) →
    exec (bitInstr v) s = .next { s with
      state := if s.state = .idle then .seekingStart
        else if v = true ∧ (s.state = .writingData ∨ s.state = .awaitingTrigger) then .seekingEnd
        else s.state
      byteStart := s.fallPos
      cmd := v
      out := s.out ++ [⟨.bitsCmd v, s.fallPos, s.pos⟩]
      cnt := 1 }

/-- R86, R88: a data bit of either shape is shifted into `sh` (in the order MSB_FIRST says), counted and recorded; the
first bit of a SLAVE byte is data and starts the byte. -/
def Obligations.DataBitResult : Prop :=
  ∀ (s : State) (v : Bool),
    (s.state.shape = .master ∧ 1 ≤ s.cnt.val ∧ s.cnt.val ≤ 8 ∨ s.state.shape = .slave ∧ s.cnt.val ≤ 7) →
    ¬(s.state = .awaitingTrigger ∧ v = false) →
    exec (bitInstr v) s = .next { s with
      state := if s.state = .idle then .seekingStart else s.state
      byteStart := if s.cnt = 0 then s.fallPos else s.byteStart
      sh := if s.cfg.msbFirst then s.sh.extractLsb' 0 7 ++ BitVec.ofBool v else BitVec.ofBool v ++ s.sh.extractLsb' 1 7
      out := s.out ++ [⟨.bitsData v, s.fallPos, s.pos⟩]
      cnt := s.cnt + 1 }

/-- R89, R100: the framing bit is recorded as DATA, and the completed byte runs as the frame symbol that the decoder reads
in the current state from CMD, `sh` and the framing bit. That the frame's meaning begins with its Bytes-row record is
the model's cut (log entry 14). -/
def Obligations.FramingBitRunsTheFrame : Prop :=
  ∀ (s : State) (v : Bool) (i : Instr), s.state ≠ .idle →
    (s.state.shape = .master ∧ s.cnt = 9 ∧ decode s.state (.master (masterWord s.cmd s.sh v)) = .ok i ∨
      s.state.shape = .slave ∧ s.cnt = 8 ∧ decode s.state (.slave (slaveWord s.sh v)) = .ok i) →
    exec (bitInstr v) s = exec i { s with out := s.out ++ [⟨.bitsData v, s.fallPos, s.pos⟩], cnt := 0 }

/-- R32, R49, R50, R95: ten bits in MASTER shape from a byte boundary, or nine in SLAVE shape, run the one frame symbol
that the word `CMD ++ D7..D0 ++ F` (or `D7..D0 ++ F`) decodes to, the first data bit being the most significant, with
one Bits record a bit. -/
def Obligations.FrameBitsRunTheFrame : Prop :=
  (∀ (s : State) (c : Bool) (d : Byte) (f : Bool) (st : TState) (i : Instr), s.cfg.msbFirst = true → s.cnt = 0 →
    s.state.shape = .master → st = afterCmd (leaveIdle s.state) c →
    decode st (.master (masterWord c d f)) = .ok i →
    runSymbols (masterBits c d f) s = exec i { s with
      state := st
      cmd := c
      sh := d
      byteStart := s.fallPos
      out := s.out ++ ⟨.bitsCmd c, s.fallPos, s.pos⟩ ::
        (bitsMsbFirst d ++ [f]).map fun v => ⟨.bitsData v, s.fallPos, s.pos⟩ }) ∧
  (∀ (s : State) (d : Byte) (f : Bool) (i : Instr), s.cfg.msbFirst = true → s.cnt = 0 → s.state = .readingData →
    decode .readingData (.slave (slaveWord d f)) = .ok i →
    runSymbols (slaveBits d f) s = exec i { s with
      sh := d
      byteStart := s.fallPos
      out := s.out ++ (bitsMsbFirst d ++ [f]).map fun v => ⟨.bitsData v, s.fallPos, s.pos⟩ })

/-- R91, R151: a bad pulse makes its Bits-row record and drops the partial byte, always. Inside a transaction it takes
InvalidBitEncoding, over the partial byte and the pulse, or the pulse alone. -/
def Obligations.BadPulseResult : Prop :=
  (∀ (s : State), s.state.txnOpen = false →
    exec .badPulse s = .next { s with
      state := .seekingStart, cnt := 0, out := s.out ++ [⟨.bitsErr, s.fallPos, s.pos⟩] }) ∧
  (∀ (s : State), s.state.txnOpen = true →
    exec .badPulse s = .next { s with
      state := .seekingStart
      cnt := 0
      out := s.out ++ [⟨.bitsErr, s.fallPos, s.pos⟩,
        ⟨.masterError .invalidBitEncoding 0, if s.cnt = 0 then s.fallPos else s.byteStart, s.pos⟩,
        txnRecord (.error .invalidBitEncoding) s.pos s] })

/-- R92: an idle event outside a transaction drops the partial byte and goes to IDLE; in every other state nothing. -/
def Obligations.IdleEventResult : Prop :=
  ∀ (s : State), (s.state = .seekingStart → idleEvent s = { s with cnt := 0, state := .idle }) ∧
    (s.state ≠ .seekingStart → idleEvent s = s)

/-! ### The transaction framing FSM -/

/-- R103: in SEEKING_START a byte is START if CMD is 1 and the value 0x5A; it opens a transaction and clears its
registers as R103 lists them. What becomes of `addr_start`, which R103 does not list, is left open here
(StartClearsTheAddressRegisters). Any other byte is ignored (R58): only its Bytes-row record leaves. Its CMD bit moves
nothing on. -/
def Obligations.SeekingStartByteResult : Prop :=
  (∀ (c : Bool) (d : Byte) (f : Bool), decode .seekingStart (.master (masterWord c d f)) =
    .ok (if c = true ∧ d = 0x5A then .start f else .skip c d f)) ∧
  (∀ (s : State) (f : Bool), s.state = .seekingStart →
    ∃ t, exec (.start f) s = .next t ∧ t = { s with
      out := s.out ++ [⟨.byte 0x5A true true f, s.byteStart, s.pos⟩, ⟨.masterStart, s.byteStart, s.pos⟩]
      txnStart := s.byteStart
      addr := 0
      addrCnt := 0
      addrStart := t.addrStart
      rwId := 0
      rwidValid := false
      dir := false
      dataCnt := 0
      state := .readingAddress }) ∧
  (∀ (s : State) (c : Bool) (d : Byte) (f : Bool), s.state = .seekingStart →
    exec (.skip c d f) s = .next { s with out := s.out ++ [⟨.byte d true c f, s.byteStart, s.pos⟩] }) ∧
  (∀ (s : State) (v : Bool), s.state = .seekingStart → s.cnt = 0 →
    ∃ t, exec (bitInstr v) s = .next t ∧ t.state = .seekingStart)

/-- R19: START clears all three address registers. For `addr_start` the listings of R103 and R149 do not show it; that the
model follows R19 there is its choice (log entry 19). -/
def Obligations.StartClearsTheAddressRegisters : Prop :=
  ∀ (s : State) (f : Bool), s.state = .seekingStart →
    ∃ t, exec (.start f) s = .next t ∧ t.addr = 0 ∧ t.addrCnt = 0 ∧ t.addrStart = 0

/-- R104: in READING_ADDRESS a byte with CMD 1 takes UnexpectedControlByte, whatever its value (0x5A is not taken as
START); otherwise it is shifted into the address. The last one makes the one ADDR record, over all address bytes, and
moves on to READING_RW_ID. -/
def Obligations.ReadingAddressByteResult : Prop :=
  (∀ (c : Bool) (d : Byte) (f : Bool), decode .readingAddress (.master (masterWord c d f)) =
    .ok (if c = true then .ctlInAddr d f else .addr d f)) ∧
  (∀ (s : State) (d : Byte) (f : Bool), s.state = .readingAddress →
    exec (.ctlInAddr d f) s = .next { s with
      out := s.out ++ [⟨.byte d true true f, s.byteStart, s.pos⟩,
        ⟨.masterError .unexpectedControlByte d, s.byteStart, s.pos⟩,
        txnRecord (.error .unexpectedControlByte) s.pos s]
      cnt := 0
      state := .seekingStart }) ∧
  (∀ (s : State) (a : Byte) (f : Bool), s.state = .readingAddress → s.addrCnt.val + 1 ≠ s.cfg.addressBytes →
    exec (.addr a f) s = .next { s with
      out := s.out ++ [⟨.byte a true false f, s.byteStart, s.pos⟩]
      addr := s.addr.extractLsb' 0 16 ++ a
      addrCnt := s.addrCnt + 1
      addrStart := if s.addrCnt = 0 then s.byteStart else s.addrStart }) ∧
  (∀ (s : State) (a : Byte) (f : Bool), s.state = .readingAddress → s.addrCnt.val + 1 = s.cfg.addressBytes →
    exec (.addr a f) s = .next { s with
      out := s.out ++ [⟨.byte a true false f, s.byteStart, s.pos⟩,
        ⟨.masterAddr (s.addr.extractLsb' 0 16 ++ a), if s.addrCnt = 0 then s.byteStart else s.addrStart, s.pos⟩]
      addr := s.addr.extractLsb' 0 16 ++ a
      addrCnt := s.addrCnt + 1
      addrStart := if s.addrCnt = 0 then s.byteStart else s.addrStart
      state := .readingRwId })

/-- R105: in READING_RW_ID a byte with CMD 1 takes UnexpectedControlByte; otherwise bit 7 selects the direction: a write
goes on to WRITING_DATA, a read to AWAITING_TRIGGER, whose wait begins at the current position. -/
def Obligations.ReadingRwIdByteResult : Prop :=
  (∀ (c : Bool) (d : Byte) (f : Bool), decode .readingRwId (.master (masterWord c d f)) =
    .ok (if c = true then .ctlInRwid d f
      else if d.getLsbD 7 = true then .rwidRd (d.extractLsb' 0 7) f else .rwidWr (d.extractLsb' 0 7) f)) ∧
  (∀ (s : State) (d : Byte) (f : Bool), s.state = .readingRwId →
    exec (.ctlInRwid d f) s = .next { s with
      out := s.out ++ [⟨.byte d true true f, s.byteStart, s.pos⟩,
        ⟨.masterError .unexpectedControlByte d, s.byteStart, s.pos⟩,
        txnRecord (.error .unexpectedControlByte) s.pos s]
      cnt := 0
      state := .seekingStart }) ∧
  (∀ (s : State) (id : BitVec 7) (f : Bool), s.state = .readingRwId →
    exec (.rwidWr id f) s = .next { s with
      out := s.out ++ [⟨.byte (BitVec.ofBool false ++ id) true false f, s.byteStart, s.pos⟩,
        ⟨.masterRwid (BitVec.ofBool false ++ id), s.byteStart, s.pos⟩]
      rwId := BitVec.ofBool false ++ id
      rwidValid := true
      dir := false
      state := .writingData }) ∧
  (∀ (s : State) (id : BitVec 7) (f : Bool), s.state = .readingRwId →
    exec (.rwidRd id f) s = .next { s with
      out := s.out ++ [⟨.byte (BitVec.ofBool true ++ id) true false f, s.byteStart, s.pos⟩,
        ⟨.masterRwid (BitVec.ofBool true ++ id), s.byteStart, s.pos⟩]
      rwId := BitVec.ofBool true ++ id
      rwidValid := true
      dir := true
      state := .awaitingTrigger
      waitStart := s.pos })

/-- R106: in WRITING_DATA a byte with CMD 0 is write data: recorded on the Master row and counted, saturating. A byte
with CMD 1 cannot complete here. -/
def Obligations.WritingDataByteResult : Prop :=
  (∀ (c : Bool) (d : Byte) (f : Bool), decode .writingData (.master (masterWord c d f)) =
    if c = true then .error .noMasterRow else .ok (.wdata d f)) ∧
  (∀ (s : State) (d : Byte) (f : Bool), s.state = .writingData →
    exec (.wdata d f) s = .next { s with
      out := s.out ++ [⟨.byte d true false f, s.byteStart, s.pos⟩, ⟨.masterWdata d, s.byteStart, s.pos⟩]
      dataCnt := min (s.dataCnt + 1) (2 ^ s.cfg.dataCntW - 1) })

/-- R108: a trigger moves on to READING_DATA, so that the shape becomes SLAVE, and makes only its Master-row record. -/
def Obligations.TriggerResult : Prop :=
  ∀ (s : State), s.state = .awaitingTrigger →
    exec .trigger s = .next { s with
      out := s.out ++ [⟨.masterTrigger, s.fallPos, s.pos⟩], state := .readingData }

/-- R111: in READING_DATA a SLAVE byte is read data: recorded on the Slave row and counted, saturating; then the wait for
the next trigger begins. The CMD-bit rule does not apply: the first bit of the byte is data bit 7 and moves nothing on. -/
def Obligations.ReadingDataByteResult : Prop :=
  (∀ (d : Byte) (f : Bool), decode .readingData (.slave (slaveWord d f)) = .ok (.rdata d f)) ∧
  (∀ (s : State) (d : Byte) (f : Bool), s.state = .readingData →
    exec (.rdata d f) s = .next { s with
      out := s.out ++ [⟨.byte d false false f, s.byteStart, s.pos⟩, ⟨.slaveRdata d, s.byteStart, s.pos⟩]
      dataCnt := min (s.dataCnt + 1) (2 ^ s.cfg.dataCntW - 1)
      state := .awaitingTrigger
      waitStart := s.pos }) ∧
  (∀ (s : State) (v : Bool), s.state = .readingData → s.cnt = 0 →
    ∃ t, exec (bitInstr v) s = .next t ∧ t.state = .readingData ∧ t.cnt = 1 ∧ t.cmd = s.cmd ∧
      t.out = s.out ++ [⟨.bitsData v, s.fallPos, s.pos⟩])

/-- R112, R154: in SEEKING_END the value 0xFF is END, which closes the transaction with outcome OK and goes to IDLE;
another value takes MalformedEndMarker, which reports the value and closes it with outcome ERROR. -/
def Obligations.SeekingEndByteResult : Prop :=
  (∀ (d : Byte) (f : Bool), decode .seekingEnd (.master (masterWord true d f)) =
    .ok (if d = 0xFF then .endMark f else .badEnd d f)) ∧
  (∀ (s : State) (f : Bool), s.state = .seekingEnd →
    exec (.endMark f) s = .next { s with
      out := s.out ++ [⟨.byte 0xFF true true f, s.byteStart, s.pos⟩, ⟨.masterEnd, s.byteStart, s.pos⟩,
        txnRecord .ok s.pos s]
      state := .idle }) ∧
  (∀ (s : State) (d : Byte) (f : Bool), s.state = .seekingEnd →
    exec (.badEnd d f) s = .next { s with
      out := s.out ++ [⟨.byte d true true f, s.byteStart, s.pos⟩,
        ⟨.masterError .malformedEndMarker d, s.byteStart, s.pos⟩, txnRecord (.error .malformedEndMarker) s.pos s]
      cnt := 0
      state := .seekingStart })

/-- R157: taking an error reports it on the Master row, closes the open transaction, if any, with outcome ERROR and the
kind, and goes to SEEKING_START at a byte boundary; nothing else changes. -/
def Obligations.ErrorEntryResult : Prop :=
  ∀ (k : ErrorKind) (a b : Pos) (value : Byte) (s : State),
    raiseError k a b value s = { s with
      out := s.out ++ ⟨.masterError k value, a, b⟩ :: (if s.state.txnOpen then [txnRecord (.error k) b s] else [])
      cnt := 0
      state := .seekingStart }

/-- R114, R131: the TXN record holds the current transaction registers. -/
def Obligations.TxnRecordHoldsRegisters : Prop :=
  ∀ (o : TxnOutcome) (x : Pos) (s : State), txnRecord o x s = ⟨.txn ⟨o, s.addr, s.addrCnt, s.rwId, s.rwidValid, s.dir,
    s.dataCnt⟩, s.txnStart, x⟩

/-- The model's stops inside `exec` (log entries 8 and 9): a bit of value 0 in AWAITING_TRIGGER, a completed byte that has
no row, and a symbol in a state in which the table has no row for it are refused by name. -/
def Obligations.SymbolWithoutRowIsRefused : Prop :=
  (∀ (s : State), s.state = .awaitingTrigger → exec .bit0 s = .refused .unreachableBit) ∧
  (∀ (s : State) (v : Bool) (e : DecodeError), s.state ≠ .idle → s.state.shape = .master → s.cnt = 9 →
    ¬(s.state = .awaitingTrigger ∧ v = false) →
    decode s.state (.master (masterWord s.cmd s.sh v)) = .error e →
    exec (bitInstr v) s = .refused .unreachableFrame) ∧
  (∀ (s : State) (i : Instr), (i.isFrame = true ∨ i = .trigger) → i.legalIn s.state = false →
    exec i s = .refused .outOfContext)

/-! ### What symbols leave alone -/

/-- R143, R157: no symbol touches the classifier, the configuration, the pins or the run's records; it only appends
records, and every one of them ends at the position of the tick (R134 (a)). -/
def Obligations.SymbolsOnlyAppendRecords : Prop :=
  ∀ (i : Instr) (s t : State), exec i s = .next t →
    t.pos = s.pos ∧ t.primed = s.primed ∧ t.prev = s.prev ∧ t.phase = s.phase ∧ t.fallPos = s.fallPos ∧
    t.risePos = s.risePos ∧ t.done = s.done ∧ t.cfg = s.cfg ∧ t.input = s.input ∧ t.trace = s.trace ∧
    ∃ l, t.out = s.out ++ l ∧ ∀ r ∈ l, r.stop = s.pos

/-- R100: only the frame symbols write the transaction registers, and only the bits write the assembler's. A frame symbol,
a trigger and a bad pulse leave `cmd`, `sh` and `byte_start`; a trigger, a bad pulse and a bit that completes no byte (up
to `cnt = 8` in MASTER shape, 7 in SLAVE shape) leave every transaction register. -/
def Obligations.RegistersOfTheOtherPart : Prop :=
  (∀ (i : Instr) (s t : State), i ≠ .bit0 → i ≠ .bit1 → exec i s = .next t →
    t.cmd = s.cmd ∧ t.sh = s.sh ∧ t.byteStart = s.byteStart) ∧
  (∀ (i : Instr) (s t : State), i.isFrame = false →
    (i = .bit0 ∨ i = .bit1 → s.cnt.val ≤ (match s.state.shape with | .master => 8 | .slave => 7)) → exec i s = .next t →
    t.addr = s.addr ∧ t.addrCnt = s.addrCnt ∧ t.addrStart = s.addrStart ∧ t.rwId = s.rwId ∧
    t.rwidValid = s.rwidValid ∧ t.dir = s.dir ∧ t.dataCnt = s.dataCnt ∧ t.txnStart = s.txnStart ∧
    t.waitStart = s.waitStart)

/-- R100, R156: `framing_ok` never influences the TFSM. Two frames that differ in the framing bit alone end alike, and
their records differ in `framing_ok` alone. -/
def Obligations.FramingBitNeverSteers : Prop :=
  ∀ (i : Instr) (f g : Bool) (s : State),
    (∀ t, exec (i.withFraming f) s = .next t → ∃ u, exec (i.withFraming g) s = .next u ∧
      { t with out := [] } = { u with out := [] } ∧
      t.out.map Record.forgetFraming = u.out.map Record.forgetFraming) ∧
    (∀ r, exec (i.withFraming f) s = .refused r → exec (i.withFraming g) s = .refused r)

/-! ### The error detector and the end of stream -/

/-- R155: MissingTrigger is raised on exactly the Sample ticks that find AWAITING_TRIGGER, no pulse open, no falling edge
and the wait exceeded (within the contract); it is the error entry over `[wait_start, p)` with value 0 (R157). -/
def Obligations.MissingTriggerExactly : Prop :=
  (∀ (s t : State), step s = .next t →
    ((∃ r ∈ t.out, ∃ v, r.payload = .masterError .missingTrigger v) ↔
      ∃ d, s.nextSymbol = .sample d ∧ s.primed = true ∧ s.state = .awaitingTrigger ∧ s.phase = .waitFall ∧
        ¬(s.prev = .high ∧ d = .low) ∧ s.cfg.trigWait < s.pos - s.waitStart)) ∧
  (∀ (s : State) (d : Level), s.nextSymbol = .sample d → s.primed = true → s.cfg.legal = true → s.pos + 1 < 2 ^ s.cfg.posW →
    s.state = .awaitingTrigger → s.phase = .waitFall → ¬(s.prev = .high ∧ d = .low) →
    s.cfg.trigWait < s.pos - s.waitStart →
    ∃ t, step s = .next t ∧ t.out = [⟨.masterError .missingTrigger 0, s.waitStart, s.pos⟩,
        txnRecord (.error .missingTrigger) s.pos s] ∧
      t = { s with
        cnt := 0
        state := .seekingStart
        prev := d
        pos := s.pos + 1
        input := t.input
        out := t.out
        trace := s.trace ++ t.out })

/-- R152: at the end of stream with no complete pulse open, PrematureEndOfStream is raised once if a pulse, a byte or a
transaction is open, from the start of the truncated unit; otherwise nothing is emitted and the state stays. -/
def Obligations.EosWithoutCompletePulse : Prop :=
  ∀ (s : State) (mid : Bool), s.nextSymbol = .eos → s.cfg.legal = true →
    (s.phase = .waitFall ∧ mid = false ∨ s.phase = .inLow ∧ mid = true ∨
      s.phase = .inHigh ∧ ¬(s.lowUnits = 1 ∧ 4 ≤ s.highUnits) ∧ ¬(s.lowUnits = 4 ∧ 1 ≤ s.highUnits) ∧ mid = true) →
    ∃ t, step s = .next t ∧
      t = { s with
        cnt := 0
        state := if mid = true ∨ s.cnt ≠ 0 ∨ s.state.txnOpen = true then .seekingStart else s.state
        phase := .waitFall
        done := true
        input := t.input
        out := t.out
        trace := s.trace ++ t.out } ∧
      t.out = if mid = true ∨ s.cnt ≠ 0 ∨ s.state.txnOpen = true then
        ⟨.masterError .prematureEndOfStream 0,
          if s.cnt ≠ 0 then s.byteStart else if mid = true then s.fallPos else s.pos, s.pos⟩ ::
          (if s.state.txnOpen then [txnRecord (.error .prematureEndOfStream) s.pos s] else [])
        else []

/-- R144, R148, R101: after the Eos tick the block is done, at a byte boundary, with no pulse and no transaction open. -/
def Obligations.EosLeavesNothingOpen : Prop :=
  ∀ (s t : State), s.nextSymbol = .eos → step s = .next t →
    t.done = true ∧ t.cnt = 0 ∧ t.phase = .waitFall ∧ t.pos = s.pos ∧ t.state.txnOpen = false

/-- R160: at most one error entry happens per tick. -/
def Obligations.OneErrorPerTick : Prop :=
  ∀ (s t : State), step s = .next t → t.out.countP Record.isError ≤ 1

/-- R157, R158, R92: a tick that takes an error ends at a byte boundary with no transaction open: in SEEKING_START, or in
IDLE, and then only where the idle event of the same tick followed. -/
def Obligations.ErrorResynchronises : Prop :=
  ∀ (s t : State), step s = .next t → (∃ r ∈ t.out, r.isError = true) →
    t.cnt = 0 ∧ (t.state = .seekingStart ∨ t.state = .idle) ∧
      (t.state = .idle → s.phase = .inHigh ∧ isIdle s.cfg s.highSamples = true ∧ ∃ d, s.nextSymbol = .sample d)

/-! ### The ports -/

/-- R132, R133: on a Sample tick each port carries at most one record, and they leave in the order Bits, Bytes, Master or
Slave, TXN. -/
def Obligations.SampleTickPortOrder : Prop :=
  ∀ (s t : State) (d : Level), s.nextSymbol = .sample d → step s = .next t →
    (t.out.map fun r => r.row.code).Pairwise (· < ·)

/-- R132: on the Eos tick only the Master port may carry two records. -/
def Obligations.EosTickPortCapacity : Prop :=
  ∀ (s t : State) (x : Row), s.nextSymbol = .eos → step s = .next t →
    t.out.countP (fun r => r.row == x) ≤ (if x = .master then 2 else 1)

/-- R134 (a): every record ends at the position of the tick that emits it. -/
def Obligations.RecordsEndAtTheTick : Prop :=
  ∀ (s t : State), step s = .next t → ∀ r ∈ t.out, r.stop = s.pos

/-- R128, R135, R95: a tick that emits a Bytes-row record also emits a Bits-row DATA record (the framing bit's). A
Master-row or Slave-row record of a byte never leaves without the Bytes-row record, the error of the byte
(UnexpectedControlByte, MalformedEndMarker) no more than its START, ADDR, RWID, WDATA, END or RDATA; and no
InvalidBitEncoding leaves without the Bits-row ERR record of its pulse. -/
def Obligations.RowsShowGroundTruth : Prop :=
  ∀ (s t : State), step s = .next t →
    ((∃ r ∈ t.out, r.row = .bytes) → ∃ r ∈ t.out, ∃ v, r.payload = .bitsData v) ∧
    ((∃ r ∈ t.out, r.row = .slave ∨ r.payload = .masterStart ∨ r.payload = .masterEnd ∨
        (∃ v, r.payload = .masterWdata v) ∨ (∃ v, r.payload = .masterRwid v) ∨ (∃ v, r.payload = .masterAddr v) ∨
        (∃ v, r.payload = .masterError .unexpectedControlByte v) ∨
        (∃ v, r.payload = .masterError .malformedEndMarker v)) →
      ∃ r ∈ t.out, r.row = .bytes) ∧
    ((∃ r ∈ t.out, ∃ v, r.payload = .masterError .invalidBitEncoding v) → ∃ r ∈ t.out, r.payload = .bitsErr)

/-! ### Invariants and whole runs -/

/-- The invariants hold of the reset state, which has no records. -/
def Obligations.ResetMeetsInvariants : Prop :=
  Inv State.reset ∧ SpanInv State.reset ∧ TxnBalanced State.reset

/-- R29: the invariants I-2 to I-9 are kept by every step, from every state that meets them. -/
def Obligations.StepKeepsRegisterInvariants : Prop :=
  ∀ (s t : State), Inv s → step s = .next t → Inv t

/-- R134: along a run, ends never decrease and on each port no two spans overlap; kept by every step. -/
def Obligations.StepKeepsSpanOrder : Prop :=
  ∀ (s t : State), Inv s → SpanInv s → step s = .next t → SpanInv t

/-- R101, R159: START records and TXN records balance: no transaction closes twice, and at most one is open; kept by every
step. (That an open one closes needs an Eos, R186, R152: EosLeavesNothingOpen.) -/
def Obligations.StepKeepsTransactionBalance : Prop :=
  ∀ (s t : State), TxnBalanced s → step s = .next t → TxnBalanced t

/-- R145, R146: taking every Hold tick out of what the host presents changes neither the final registers nor the records
of the run. -/
def Obligations.HoldTicksDoNotMatter : Prop :=
  ∀ (s t : State), runTicks s.input.length s = .next t →
    ∃ u, runTicks (s.input.filter fun p => !p.isHold).length { s with input := s.input.filter fun p => !p.isHold } =
      .next u ∧ { u with out := [] } = { t with out := [] }

/-- R110, U12, R159: the unreachable cases are dead. Under the invariants and within the contract (legal configuration,
capture shorter than `2^POS_W` samples) every tick completes. -/
def Obligations.EveryTickCompletes : Prop :=
  ∀ (s : State), Inv s → s.cfg.legal = true → s.pos + 1 < 2 ^ s.cfg.posW → Completes (step s)

/-- R52, R112, R114, property 1: the pulses of a write transaction of any address, slave ID and data, with any framing
bits, close one transaction with outcome OK and exactly the address, direction, ID and data sent. -/
def Obligations.WriteTransactionDecodes : Prop :=
  ∀ (s : State) (address data : List (Byte × Bool)) (id : BitVec 7) (f g h : Bool),
    s.cfg.legal = true → s.cfg.msbFirst = true → address.length = s.cfg.addressBytes → s.cnt = 0 →
    s.state.txnOpen = false →
    ∃ t info, runSymbols (writeTransaction address id data f g h) s = .next t ∧ t.state = .idle ∧ t.cnt = 0 ∧
      t.out.getLast? = some ⟨.txn info, s.fallPos, s.pos⟩ ∧ info.outcome = .ok ∧
      info.addr.toNat = addressValue address ∧ info.addrCnt.val = address.length ∧
      info.rwId = BitVec.ofBool false ++ id ∧ info.rwidValid = true ∧ info.dir = false ∧
      info.dataCnt = min data.length (2 ^ s.cfg.dataCntW - 1) ∧
      t.out.filterMap Record.dataValue? = s.out.filterMap Record.dataValue? ++ data.map Prod.fst

/-- R53, R112, R114, property 1: the same for a read transaction, with a trigger before each data byte. -/
def Obligations.ReadTransactionDecodes : Prop :=
  ∀ (s : State) (address data : List (Byte × Bool)) (id : BitVec 7) (f g h : Bool),
    s.cfg.legal = true → s.cfg.msbFirst = true → address.length = s.cfg.addressBytes → s.cnt = 0 →
    s.state.txnOpen = false →
    ∃ t info, runSymbols (readTransaction address id data f g h) s = .next t ∧ t.state = .idle ∧ t.cnt = 0 ∧
      t.out.getLast? = some ⟨.txn info, s.fallPos, s.pos⟩ ∧ info.outcome = .ok ∧
      info.addr.toNat = addressValue address ∧ info.addrCnt.val = address.length ∧
      info.rwId = BitVec.ofBool true ++ id ∧ info.rwidValid = true ∧ info.dir = true ∧
      info.dataCnt = min data.length (2 ^ s.cfg.dataCntW - 1) ∧
      t.out.filterMap Record.dataValue? = s.out.filterMap Record.dataValue? ++ data.map Prod.fst
end

