-- ==== Sys2Proof/Laws/State.lean ====
section
/-! SUPPORT. For each operation that writes the state, one lemma a field: what it writes, and that it leaves the rest. -/

namespace Sys2Proof.Machine

/-! ### `emit` -/

@[simp] theorem emit_pos (r : Record) (s : State) : (emit r s).pos = s.pos := rfl
@[simp] theorem emit_primed (r : Record) (s : State) : (emit r s).primed = s.primed := rfl
@[simp] theorem emit_prev (r : Record) (s : State) : (emit r s).prev = s.prev := rfl
@[simp] theorem emit_phase (r : Record) (s : State) : (emit r s).phase = s.phase := rfl
@[simp] theorem emit_fallPos (r : Record) (s : State) : (emit r s).fallPos = s.fallPos := rfl
@[simp] theorem emit_risePos (r : Record) (s : State) : (emit r s).risePos = s.risePos := rfl
@[simp] theorem emit_state (r : Record) (s : State) : (emit r s).state = s.state := rfl
@[simp] theorem emit_cnt (r : Record) (s : State) : (emit r s).cnt = s.cnt := rfl
@[simp] theorem emit_cmd (r : Record) (s : State) : (emit r s).cmd = s.cmd := rfl
@[simp] theorem emit_sh (r : Record) (s : State) : (emit r s).sh = s.sh := rfl
@[simp] theorem emit_byteStart (r : Record) (s : State) : (emit r s).byteStart = s.byteStart := rfl
@[simp] theorem emit_addr (r : Record) (s : State) : (emit r s).addr = s.addr := rfl
@[simp] theorem emit_addrCnt (r : Record) (s : State) : (emit r s).addrCnt = s.addrCnt := rfl
@[simp] theorem emit_addrStart (r : Record) (s : State) : (emit r s).addrStart = s.addrStart := rfl
@[simp] theorem emit_rwId (r : Record) (s : State) : (emit r s).rwId = s.rwId := rfl
@[simp] theorem emit_rwidValid (r : Record) (s : State) : (emit r s).rwidValid = s.rwidValid := rfl
@[simp] theorem emit_dir (r : Record) (s : State) : (emit r s).dir = s.dir := rfl
@[simp] theorem emit_dataCnt (r : Record) (s : State) : (emit r s).dataCnt = s.dataCnt := rfl
@[simp] theorem emit_txnStart (r : Record) (s : State) : (emit r s).txnStart = s.txnStart := rfl
@[simp] theorem emit_waitStart (r : Record) (s : State) : (emit r s).waitStart = s.waitStart := rfl
@[simp] theorem emit_done (r : Record) (s : State) : (emit r s).done = s.done := rfl
@[simp] theorem emit_cfg (r : Record) (s : State) : (emit r s).cfg = s.cfg := rfl
@[simp] theorem emit_input (r : Record) (s : State) : (emit r s).input = s.input := rfl
@[simp] theorem emit_out (r : Record) (s : State) : (emit r s).out = s.out ++ [r] := rfl
@[simp] theorem emit_trace (r : Record) (s : State) : (emit r s).trace = s.trace := rfl

/-! ### `raiseError` -/

@[simp] theorem raiseError_pos (k : ErrorKind) (a b : Pos) (v : Byte) (s : State) : (raiseError k a b v s).pos = s.pos := rfl
@[simp] theorem raiseError_primed (k : ErrorKind) (a b : Pos) (v : Byte) (s : State) : (raiseError k a b v s).primed = s.primed := rfl
@[simp] theorem raiseError_prev (k : ErrorKind) (a b : Pos) (v : Byte) (s : State) : (raiseError k a b v s).prev = s.prev := rfl
@[simp] theorem raiseError_phase (k : ErrorKind) (a b : Pos) (v : Byte) (s : State) : (raiseError k a b v s).phase = s.phase := rfl
@[simp] theorem raiseError_fallPos (k : ErrorKind) (a b : Pos) (v : Byte) (s : State) : (raiseError k a b v s).fallPos = s.fallPos := rfl
@[simp] theorem raiseError_risePos (k : ErrorKind) (a b : Pos) (v : Byte) (s : State) : (raiseError k a b v s).risePos = s.risePos := rfl
@[simp] theorem raiseError_state (k : ErrorKind) (a b : Pos) (v : Byte) (s : State) : (raiseError k a b v s).state = .seekingStart := rfl
@[simp] theorem raiseError_cnt (k : ErrorKind) (a b : Pos) (v : Byte) (s : State) : (raiseError k a b v s).cnt = 0 := rfl
@[simp] theorem raiseError_cmd (k : ErrorKind) (a b : Pos) (v : Byte) (s : State) : (raiseError k a b v s).cmd = s.cmd := rfl
@[simp] theorem raiseError_sh (k : ErrorKind) (a b : Pos) (v : Byte) (s : State) : (raiseError k a b v s).sh = s.sh := rfl
@[simp] theorem raiseError_byteStart (k : ErrorKind) (a b : Pos) (v : Byte) (s : State) : (raiseError k a b v s).byteStart = s.byteStart := rfl
@[simp] theorem raiseError_addr (k : ErrorKind) (a b : Pos) (v : Byte) (s : State) : (raiseError k a b v s).addr = s.addr := rfl
@[simp] theorem raiseError_addrCnt (k : ErrorKind) (a b : Pos) (v : Byte) (s : State) : (raiseError k a b v s).addrCnt = s.addrCnt := rfl
@[simp] theorem raiseError_addrStart (k : ErrorKind) (a b : Pos) (v : Byte) (s : State) : (raiseError k a b v s).addrStart = s.addrStart := rfl
@[simp] theorem raiseError_rwId (k : ErrorKind) (a b : Pos) (v : Byte) (s : State) : (raiseError k a b v s).rwId = s.rwId := rfl
@[simp] theorem raiseError_rwidValid (k : ErrorKind) (a b : Pos) (v : Byte) (s : State) : (raiseError k a b v s).rwidValid = s.rwidValid := rfl
@[simp] theorem raiseError_dir (k : ErrorKind) (a b : Pos) (v : Byte) (s : State) : (raiseError k a b v s).dir = s.dir := rfl
@[simp] theorem raiseError_dataCnt (k : ErrorKind) (a b : Pos) (v : Byte) (s : State) : (raiseError k a b v s).dataCnt = s.dataCnt := rfl
@[simp] theorem raiseError_txnStart (k : ErrorKind) (a b : Pos) (v : Byte) (s : State) : (raiseError k a b v s).txnStart = s.txnStart := rfl
@[simp] theorem raiseError_waitStart (k : ErrorKind) (a b : Pos) (v : Byte) (s : State) : (raiseError k a b v s).waitStart = s.waitStart := rfl
@[simp] theorem raiseError_done (k : ErrorKind) (a b : Pos) (v : Byte) (s : State) : (raiseError k a b v s).done = s.done := rfl
@[simp] theorem raiseError_cfg (k : ErrorKind) (a b : Pos) (v : Byte) (s : State) : (raiseError k a b v s).cfg = s.cfg := rfl
@[simp] theorem raiseError_input (k : ErrorKind) (a b : Pos) (v : Byte) (s : State) : (raiseError k a b v s).input = s.input := rfl
@[simp] theorem raiseError_out (k : ErrorKind) (a b : Pos) (v : Byte) (s : State) : (raiseError k a b v s).out = s.out ++ errorRecords k a b v s := rfl
@[simp] theorem raiseError_trace (k : ErrorKind) (a b : Pos) (v : Byte) (s : State) : (raiseError k a b v s).trace = s.trace := rfl

/-! ### `idleEvent` -/

@[simp] theorem idleEvent_pos (s : State) : (idleEvent s).pos = s.pos := rfl
@[simp] theorem idleEvent_primed (s : State) : (idleEvent s).primed = s.primed := rfl
@[simp] theorem idleEvent_prev (s : State) : (idleEvent s).prev = s.prev := rfl
@[simp] theorem idleEvent_phase (s : State) : (idleEvent s).phase = s.phase := rfl
@[simp] theorem idleEvent_fallPos (s : State) : (idleEvent s).fallPos = s.fallPos := rfl
@[simp] theorem idleEvent_risePos (s : State) : (idleEvent s).risePos = s.risePos := rfl
@[simp] theorem idleEvent_state (s : State) : (idleEvent s).state = if s.state = .seekingStart then .idle else s.state := rfl
@[simp] theorem idleEvent_cnt (s : State) : (idleEvent s).cnt = if s.state = .seekingStart then 0 else s.cnt := rfl
@[simp] theorem idleEvent_cmd (s : State) : (idleEvent s).cmd = s.cmd := rfl
@[simp] theorem idleEvent_sh (s : State) : (idleEvent s).sh = s.sh := rfl
@[simp] theorem idleEvent_byteStart (s : State) : (idleEvent s).byteStart = s.byteStart := rfl
@[simp] theorem idleEvent_addr (s : State) : (idleEvent s).addr = s.addr := rfl
@[simp] theorem idleEvent_addrCnt (s : State) : (idleEvent s).addrCnt = s.addrCnt := rfl
@[simp] theorem idleEvent_addrStart (s : State) : (idleEvent s).addrStart = s.addrStart := rfl
@[simp] theorem idleEvent_rwId (s : State) : (idleEvent s).rwId = s.rwId := rfl
@[simp] theorem idleEvent_rwidValid (s : State) : (idleEvent s).rwidValid = s.rwidValid := rfl
@[simp] theorem idleEvent_dir (s : State) : (idleEvent s).dir = s.dir := rfl
@[simp] theorem idleEvent_dataCnt (s : State) : (idleEvent s).dataCnt = s.dataCnt := rfl
@[simp] theorem idleEvent_txnStart (s : State) : (idleEvent s).txnStart = s.txnStart := rfl
@[simp] theorem idleEvent_waitStart (s : State) : (idleEvent s).waitStart = s.waitStart := rfl
@[simp] theorem idleEvent_done (s : State) : (idleEvent s).done = s.done := rfl
@[simp] theorem idleEvent_cfg (s : State) : (idleEvent s).cfg = s.cfg := rfl
@[simp] theorem idleEvent_input (s : State) : (idleEvent s).input = s.input := rfl
@[simp] theorem idleEvent_out (s : State) : (idleEvent s).out = s.out := rfl
@[simp] theorem idleEvent_trace (s : State) : (idleEvent s).trace = s.trace := rfl

/-! ### `openPulse` -/

@[simp] theorem openPulse_pos (s : State) : (openPulse s).pos = s.pos := rfl
@[simp] theorem openPulse_primed (s : State) : (openPulse s).primed = s.primed := rfl
@[simp] theorem openPulse_prev (s : State) : (openPulse s).prev = s.prev := rfl
@[simp] theorem openPulse_phase (s : State) : (openPulse s).phase = .inLow := rfl
@[simp] theorem openPulse_fallPos (s : State) : (openPulse s).fallPos = s.pos := rfl
@[simp] theorem openPulse_risePos (s : State) : (openPulse s).risePos = s.risePos := rfl
@[simp] theorem openPulse_state (s : State) : (openPulse s).state = s.state := rfl
@[simp] theorem openPulse_cnt (s : State) : (openPulse s).cnt = s.cnt := rfl
@[simp] theorem openPulse_cmd (s : State) : (openPulse s).cmd = s.cmd := rfl
@[simp] theorem openPulse_sh (s : State) : (openPulse s).sh = s.sh := rfl
@[simp] theorem openPulse_byteStart (s : State) : (openPulse s).byteStart = s.byteStart := rfl
@[simp] theorem openPulse_addr (s : State) : (openPulse s).addr = s.addr := rfl
@[simp] theorem openPulse_addrCnt (s : State) : (openPulse s).addrCnt = s.addrCnt := rfl
@[simp] theorem openPulse_addrStart (s : State) : (openPulse s).addrStart = s.addrStart := rfl
@[simp] theorem openPulse_rwId (s : State) : (openPulse s).rwId = s.rwId := rfl
@[simp] theorem openPulse_rwidValid (s : State) : (openPulse s).rwidValid = s.rwidValid := rfl
@[simp] theorem openPulse_dir (s : State) : (openPulse s).dir = s.dir := rfl
@[simp] theorem openPulse_dataCnt (s : State) : (openPulse s).dataCnt = s.dataCnt := rfl
@[simp] theorem openPulse_txnStart (s : State) : (openPulse s).txnStart = s.txnStart := rfl
@[simp] theorem openPulse_waitStart (s : State) : (openPulse s).waitStart = s.waitStart := rfl
@[simp] theorem openPulse_done (s : State) : (openPulse s).done = s.done := rfl
@[simp] theorem openPulse_cfg (s : State) : (openPulse s).cfg = s.cfg := rfl
@[simp] theorem openPulse_input (s : State) : (openPulse s).input = s.input := rfl
@[simp] theorem openPulse_out (s : State) : (openPulse s).out = s.out := rfl
@[simp] theorem openPulse_trace (s : State) : (openPulse s).trace = s.trace := rfl

/-! ### `closePulse` -/

@[simp] theorem closePulse_pos (s : State) : (closePulse s).pos = s.pos := rfl
@[simp] theorem closePulse_primed (s : State) : (closePulse s).primed = s.primed := rfl
@[simp] theorem closePulse_prev (s : State) : (closePulse s).prev = s.prev := rfl
@[simp] theorem closePulse_phase (s : State) : (closePulse s).phase = .waitFall := rfl
@[simp] theorem closePulse_fallPos (s : State) : (closePulse s).fallPos = s.fallPos := rfl
@[simp] theorem closePulse_risePos (s : State) : (closePulse s).risePos = s.risePos := rfl
@[simp] theorem closePulse_state (s : State) : (closePulse s).state = s.state := rfl
@[simp] theorem closePulse_cnt (s : State) : (closePulse s).cnt = s.cnt := rfl
@[simp] theorem closePulse_cmd (s : State) : (closePulse s).cmd = s.cmd := rfl
@[simp] theorem closePulse_sh (s : State) : (closePulse s).sh = s.sh := rfl
@[simp] theorem closePulse_byteStart (s : State) : (closePulse s).byteStart = s.byteStart := rfl
@[simp] theorem closePulse_addr (s : State) : (closePulse s).addr = s.addr := rfl
@[simp] theorem closePulse_addrCnt (s : State) : (closePulse s).addrCnt = s.addrCnt := rfl
@[simp] theorem closePulse_addrStart (s : State) : (closePulse s).addrStart = s.addrStart := rfl
@[simp] theorem closePulse_rwId (s : State) : (closePulse s).rwId = s.rwId := rfl
@[simp] theorem closePulse_rwidValid (s : State) : (closePulse s).rwidValid = s.rwidValid := rfl
@[simp] theorem closePulse_dir (s : State) : (closePulse s).dir = s.dir := rfl
@[simp] theorem closePulse_dataCnt (s : State) : (closePulse s).dataCnt = s.dataCnt := rfl
@[simp] theorem closePulse_txnStart (s : State) : (closePulse s).txnStart = s.txnStart := rfl
@[simp] theorem closePulse_waitStart (s : State) : (closePulse s).waitStart = s.waitStart := rfl
@[simp] theorem closePulse_done (s : State) : (closePulse s).done = s.done := rfl
@[simp] theorem closePulse_cfg (s : State) : (closePulse s).cfg = s.cfg := rfl
@[simp] theorem closePulse_input (s : State) : (closePulse s).input = s.input := rfl
@[simp] theorem closePulse_out (s : State) : (closePulse s).out = s.out := rfl
@[simp] theorem closePulse_trace (s : State) : (closePulse s).trace = s.trace := rfl

/-! ### `endSample` -/

@[simp] theorem endSample_pos (d : Level) (s : State) : (endSample d s).pos = s.pos + 1 := rfl
@[simp] theorem endSample_primed (d : Level) (s : State) : (endSample d s).primed = s.primed := rfl
@[simp] theorem endSample_prev (d : Level) (s : State) : (endSample d s).prev = d := rfl
@[simp] theorem endSample_phase (d : Level) (s : State) : (endSample d s).phase = s.phase := rfl
@[simp] theorem endSample_fallPos (d : Level) (s : State) : (endSample d s).fallPos = s.fallPos := rfl
@[simp] theorem endSample_risePos (d : Level) (s : State) : (endSample d s).risePos = s.risePos := rfl
@[simp] theorem endSample_state (d : Level) (s : State) : (endSample d s).state = s.state := rfl
@[simp] theorem endSample_cnt (d : Level) (s : State) : (endSample d s).cnt = s.cnt := rfl
@[simp] theorem endSample_cmd (d : Level) (s : State) : (endSample d s).cmd = s.cmd := rfl
@[simp] theorem endSample_sh (d : Level) (s : State) : (endSample d s).sh = s.sh := rfl
@[simp] theorem endSample_byteStart (d : Level) (s : State) : (endSample d s).byteStart = s.byteStart := rfl
@[simp] theorem endSample_addr (d : Level) (s : State) : (endSample d s).addr = s.addr := rfl
@[simp] theorem endSample_addrCnt (d : Level) (s : State) : (endSample d s).addrCnt = s.addrCnt := rfl
@[simp] theorem endSample_addrStart (d : Level) (s : State) : (endSample d s).addrStart = s.addrStart := rfl
@[simp] theorem endSample_rwId (d : Level) (s : State) : (endSample d s).rwId = s.rwId := rfl
@[simp] theorem endSample_rwidValid (d : Level) (s : State) : (endSample d s).rwidValid = s.rwidValid := rfl
@[simp] theorem endSample_dir (d : Level) (s : State) : (endSample d s).dir = s.dir := rfl
@[simp] theorem endSample_dataCnt (d : Level) (s : State) : (endSample d s).dataCnt = s.dataCnt := rfl
@[simp] theorem endSample_txnStart (d : Level) (s : State) : (endSample d s).txnStart = s.txnStart := rfl
@[simp] theorem endSample_waitStart (d : Level) (s : State) : (endSample d s).waitStart = s.waitStart := rfl
@[simp] theorem endSample_done (d : Level) (s : State) : (endSample d s).done = s.done := rfl
@[simp] theorem endSample_cfg (d : Level) (s : State) : (endSample d s).cfg = s.cfg := rfl
@[simp] theorem endSample_input (d : Level) (s : State) : (endSample d s).input = s.input := rfl
@[simp] theorem endSample_out (d : Level) (s : State) : (endSample d s).out = s.out := rfl
@[simp] theorem endSample_trace (d : Level) (s : State) : (endSample d s).trace = s.trace := rfl

/-! ### `beginTick` -/

@[simp] theorem beginTick_pos (s : State) : (beginTick s).pos = s.pos := rfl
@[simp] theorem beginTick_primed (s : State) : (beginTick s).primed = s.primed := rfl
@[simp] theorem beginTick_prev (s : State) : (beginTick s).prev = s.prev := rfl
@[simp] theorem beginTick_phase (s : State) : (beginTick s).phase = s.phase := rfl
@[simp] theorem beginTick_fallPos (s : State) : (beginTick s).fallPos = s.fallPos := rfl
@[simp] theorem beginTick_risePos (s : State) : (beginTick s).risePos = s.risePos := rfl
@[simp] theorem beginTick_state (s : State) : (beginTick s).state = s.state := rfl
@[simp] theorem beginTick_cnt (s : State) : (beginTick s).cnt = s.cnt := rfl
@[simp] theorem beginTick_cmd (s : State) : (beginTick s).cmd = s.cmd := rfl
@[simp] theorem beginTick_sh (s : State) : (beginTick s).sh = s.sh := rfl
@[simp] theorem beginTick_byteStart (s : State) : (beginTick s).byteStart = s.byteStart := rfl
@[simp] theorem beginTick_addr (s : State) : (beginTick s).addr = s.addr := rfl
@[simp] theorem beginTick_addrCnt (s : State) : (beginTick s).addrCnt = s.addrCnt := rfl
@[simp] theorem beginTick_addrStart (s : State) : (beginTick s).addrStart = s.addrStart := rfl
@[simp] theorem beginTick_rwId (s : State) : (beginTick s).rwId = s.rwId := rfl
@[simp] theorem beginTick_rwidValid (s : State) : (beginTick s).rwidValid = s.rwidValid := rfl
@[simp] theorem beginTick_dir (s : State) : (beginTick s).dir = s.dir := rfl
@[simp] theorem beginTick_dataCnt (s : State) : (beginTick s).dataCnt = s.dataCnt := rfl
@[simp] theorem beginTick_txnStart (s : State) : (beginTick s).txnStart = s.txnStart := rfl
@[simp] theorem beginTick_waitStart (s : State) : (beginTick s).waitStart = s.waitStart := rfl
@[simp] theorem beginTick_done (s : State) : (beginTick s).done = s.done := rfl
@[simp] theorem beginTick_cfg (s : State) : (beginTick s).cfg = s.cfg := rfl
@[simp] theorem beginTick_input (s : State) : (beginTick s).input = s.input.tail := rfl
@[simp] theorem beginTick_out (s : State) : (beginTick s).out = [] := rfl
@[simp] theorem beginTick_trace (s : State) : (beginTick s).trace = s.trace := rfl

/-! ### `recordTrace` -/

@[simp] theorem recordTrace_pos (s : State) : (recordTrace s).pos = s.pos := rfl
@[simp] theorem recordTrace_primed (s : State) : (recordTrace s).primed = s.primed := rfl
@[simp] theorem recordTrace_prev (s : State) : (recordTrace s).prev = s.prev := rfl
@[simp] theorem recordTrace_phase (s : State) : (recordTrace s).phase = s.phase := rfl
@[simp] theorem recordTrace_fallPos (s : State) : (recordTrace s).fallPos = s.fallPos := rfl
@[simp] theorem recordTrace_risePos (s : State) : (recordTrace s).risePos = s.risePos := rfl
@[simp] theorem recordTrace_state (s : State) : (recordTrace s).state = s.state := rfl
@[simp] theorem recordTrace_cnt (s : State) : (recordTrace s).cnt = s.cnt := rfl
@[simp] theorem recordTrace_cmd (s : State) : (recordTrace s).cmd = s.cmd := rfl
@[simp] theorem recordTrace_sh (s : State) : (recordTrace s).sh = s.sh := rfl
@[simp] theorem recordTrace_byteStart (s : State) : (recordTrace s).byteStart = s.byteStart := rfl
@[simp] theorem recordTrace_addr (s : State) : (recordTrace s).addr = s.addr := rfl
@[simp] theorem recordTrace_addrCnt (s : State) : (recordTrace s).addrCnt = s.addrCnt := rfl
@[simp] theorem recordTrace_addrStart (s : State) : (recordTrace s).addrStart = s.addrStart := rfl
@[simp] theorem recordTrace_rwId (s : State) : (recordTrace s).rwId = s.rwId := rfl
@[simp] theorem recordTrace_rwidValid (s : State) : (recordTrace s).rwidValid = s.rwidValid := rfl
@[simp] theorem recordTrace_dir (s : State) : (recordTrace s).dir = s.dir := rfl
@[simp] theorem recordTrace_dataCnt (s : State) : (recordTrace s).dataCnt = s.dataCnt := rfl
@[simp] theorem recordTrace_txnStart (s : State) : (recordTrace s).txnStart = s.txnStart := rfl
@[simp] theorem recordTrace_waitStart (s : State) : (recordTrace s).waitStart = s.waitStart := rfl
@[simp] theorem recordTrace_done (s : State) : (recordTrace s).done = s.done := rfl
@[simp] theorem recordTrace_cfg (s : State) : (recordTrace s).cfg = s.cfg := rfl
@[simp] theorem recordTrace_input (s : State) : (recordTrace s).input = s.input := rfl
@[simp] theorem recordTrace_out (s : State) : (recordTrace s).out = s.out := rfl
@[simp] theorem recordTrace_trace (s : State) : (recordTrace s).trace = s.trace ++ s.out := rfl

/-! ### `takeRwid` -/

@[simp] theorem takeRwid_pos (v : Byte) (f : Bool) (s : State) : (takeRwid v f s).pos = s.pos := rfl
@[simp] theorem takeRwid_primed (v : Byte) (f : Bool) (s : State) : (takeRwid v f s).primed = s.primed := rfl
@[simp] theorem takeRwid_prev (v : Byte) (f : Bool) (s : State) : (takeRwid v f s).prev = s.prev := rfl
@[simp] theorem takeRwid_phase (v : Byte) (f : Bool) (s : State) : (takeRwid v f s).phase = s.phase := rfl
@[simp] theorem takeRwid_fallPos (v : Byte) (f : Bool) (s : State) : (takeRwid v f s).fallPos = s.fallPos := rfl
@[simp] theorem takeRwid_risePos (v : Byte) (f : Bool) (s : State) : (takeRwid v f s).risePos = s.risePos := rfl
@[simp] theorem takeRwid_state (v : Byte) (f : Bool) (s : State) : (takeRwid v f s).state = s.state := rfl
@[simp] theorem takeRwid_cnt (v : Byte) (f : Bool) (s : State) : (takeRwid v f s).cnt = s.cnt := rfl
@[simp] theorem takeRwid_cmd (v : Byte) (f : Bool) (s : State) : (takeRwid v f s).cmd = s.cmd := rfl
@[simp] theorem takeRwid_sh (v : Byte) (f : Bool) (s : State) : (takeRwid v f s).sh = s.sh := rfl
@[simp] theorem takeRwid_byteStart (v : Byte) (f : Bool) (s : State) : (takeRwid v f s).byteStart = s.byteStart := rfl
@[simp] theorem takeRwid_addr (v : Byte) (f : Bool) (s : State) : (takeRwid v f s).addr = s.addr := rfl
@[simp] theorem takeRwid_addrCnt (v : Byte) (f : Bool) (s : State) : (takeRwid v f s).addrCnt = s.addrCnt := rfl
@[simp] theorem takeRwid_addrStart (v : Byte) (f : Bool) (s : State) : (takeRwid v f s).addrStart = s.addrStart := rfl
@[simp] theorem takeRwid_rwId (v : Byte) (f : Bool) (s : State) : (takeRwid v f s).rwId = v := rfl
@[simp] theorem takeRwid_rwidValid (v : Byte) (f : Bool) (s : State) : (takeRwid v f s).rwidValid = true := rfl
@[simp] theorem takeRwid_dir (v : Byte) (f : Bool) (s : State) : (takeRwid v f s).dir = rwidDir v := rfl
@[simp] theorem takeRwid_dataCnt (v : Byte) (f : Bool) (s : State) : (takeRwid v f s).dataCnt = s.dataCnt := rfl
@[simp] theorem takeRwid_txnStart (v : Byte) (f : Bool) (s : State) : (takeRwid v f s).txnStart = s.txnStart := rfl
@[simp] theorem takeRwid_waitStart (v : Byte) (f : Bool) (s : State) : (takeRwid v f s).waitStart = s.waitStart := rfl
@[simp] theorem takeRwid_done (v : Byte) (f : Bool) (s : State) : (takeRwid v f s).done = s.done := rfl
@[simp] theorem takeRwid_cfg (v : Byte) (f : Bool) (s : State) : (takeRwid v f s).cfg = s.cfg := rfl
@[simp] theorem takeRwid_input (v : Byte) (f : Bool) (s : State) : (takeRwid v f s).input = s.input := rfl
@[simp] theorem takeRwid_out (v : Byte) (f : Bool) (s : State) : (takeRwid v f s).out = s.out ++ [byteRecord v true false f s, ⟨.masterRwid v, s.byteStart, s.pos⟩] := rfl
@[simp] theorem takeRwid_trace (v : Byte) (f : Bool) (s : State) : (takeRwid v f s).trace = s.trace := rfl

/-! ### `arriveBit` -/

@[simp] theorem arriveBit_pos (s : State) : (arriveBit s).pos = s.pos := rfl
@[simp] theorem arriveBit_primed (s : State) : (arriveBit s).primed = s.primed := rfl
@[simp] theorem arriveBit_prev (s : State) : (arriveBit s).prev = s.prev := rfl
@[simp] theorem arriveBit_phase (s : State) : (arriveBit s).phase = s.phase := rfl
@[simp] theorem arriveBit_fallPos (s : State) : (arriveBit s).fallPos = s.fallPos := rfl
@[simp] theorem arriveBit_risePos (s : State) : (arriveBit s).risePos = s.risePos := rfl
@[simp] theorem arriveBit_state (s : State) : (arriveBit s).state = leaveIdle s.state := rfl
@[simp] theorem arriveBit_cnt (s : State) : (arriveBit s).cnt = s.cnt := rfl
@[simp] theorem arriveBit_cmd (s : State) : (arriveBit s).cmd = s.cmd := rfl
@[simp] theorem arriveBit_sh (s : State) : (arriveBit s).sh = s.sh := rfl
@[simp] theorem arriveBit_byteStart (s : State) : (arriveBit s).byteStart = if s.cnt = 0 then s.fallPos else s.byteStart := rfl
@[simp] theorem arriveBit_addr (s : State) : (arriveBit s).addr = s.addr := rfl
@[simp] theorem arriveBit_addrCnt (s : State) : (arriveBit s).addrCnt = s.addrCnt := rfl
@[simp] theorem arriveBit_addrStart (s : State) : (arriveBit s).addrStart = s.addrStart := rfl
@[simp] theorem arriveBit_rwId (s : State) : (arriveBit s).rwId = s.rwId := rfl
@[simp] theorem arriveBit_rwidValid (s : State) : (arriveBit s).rwidValid = s.rwidValid := rfl
@[simp] theorem arriveBit_dir (s : State) : (arriveBit s).dir = s.dir := rfl
@[simp] theorem arriveBit_dataCnt (s : State) : (arriveBit s).dataCnt = s.dataCnt := rfl
@[simp] theorem arriveBit_txnStart (s : State) : (arriveBit s).txnStart = s.txnStart := rfl
@[simp] theorem arriveBit_waitStart (s : State) : (arriveBit s).waitStart = s.waitStart := rfl
@[simp] theorem arriveBit_done (s : State) : (arriveBit s).done = s.done := rfl
@[simp] theorem arriveBit_cfg (s : State) : (arriveBit s).cfg = s.cfg := rfl
@[simp] theorem arriveBit_input (s : State) : (arriveBit s).input = s.input := rfl
@[simp] theorem arriveBit_out (s : State) : (arriveBit s).out = s.out := rfl
@[simp] theorem arriveBit_trace (s : State) : (arriveBit s).trace = s.trace := rfl

/-! ### `takeCmd` -/

@[simp] theorem takeCmd_pos (v : Bool) (s : State) : (takeCmd v s).pos = s.pos := rfl
@[simp] theorem takeCmd_primed (v : Bool) (s : State) : (takeCmd v s).primed = s.primed := rfl
@[simp] theorem takeCmd_prev (v : Bool) (s : State) : (takeCmd v s).prev = s.prev := rfl
@[simp] theorem takeCmd_phase (v : Bool) (s : State) : (takeCmd v s).phase = s.phase := rfl
@[simp] theorem takeCmd_fallPos (v : Bool) (s : State) : (takeCmd v s).fallPos = s.fallPos := rfl
@[simp] theorem takeCmd_risePos (v : Bool) (s : State) : (takeCmd v s).risePos = s.risePos := rfl
@[simp] theorem takeCmd_state (v : Bool) (s : State) : (takeCmd v s).state = afterCmd s.state v := rfl
@[simp] theorem takeCmd_cnt (v : Bool) (s : State) : (takeCmd v s).cnt = 1 := rfl
@[simp] theorem takeCmd_cmd (v : Bool) (s : State) : (takeCmd v s).cmd = v := rfl
@[simp] theorem takeCmd_sh (v : Bool) (s : State) : (takeCmd v s).sh = s.sh := rfl
@[simp] theorem takeCmd_byteStart (v : Bool) (s : State) : (takeCmd v s).byteStart = s.byteStart := rfl
@[simp] theorem takeCmd_addr (v : Bool) (s : State) : (takeCmd v s).addr = s.addr := rfl
@[simp] theorem takeCmd_addrCnt (v : Bool) (s : State) : (takeCmd v s).addrCnt = s.addrCnt := rfl
@[simp] theorem takeCmd_addrStart (v : Bool) (s : State) : (takeCmd v s).addrStart = s.addrStart := rfl
@[simp] theorem takeCmd_rwId (v : Bool) (s : State) : (takeCmd v s).rwId = s.rwId := rfl
@[simp] theorem takeCmd_rwidValid (v : Bool) (s : State) : (takeCmd v s).rwidValid = s.rwidValid := rfl
@[simp] theorem takeCmd_dir (v : Bool) (s : State) : (takeCmd v s).dir = s.dir := rfl
@[simp] theorem takeCmd_dataCnt (v : Bool) (s : State) : (takeCmd v s).dataCnt = s.dataCnt := rfl
@[simp] theorem takeCmd_txnStart (v : Bool) (s : State) : (takeCmd v s).txnStart = s.txnStart := rfl
@[simp] theorem takeCmd_waitStart (v : Bool) (s : State) : (takeCmd v s).waitStart = s.waitStart := rfl
@[simp] theorem takeCmd_done (v : Bool) (s : State) : (takeCmd v s).done = s.done := rfl
@[simp] theorem takeCmd_cfg (v : Bool) (s : State) : (takeCmd v s).cfg = s.cfg := rfl
@[simp] theorem takeCmd_input (v : Bool) (s : State) : (takeCmd v s).input = s.input := rfl
@[simp] theorem takeCmd_out (v : Bool) (s : State) : (takeCmd v s).out = s.out ++ [⟨.bitsCmd v, s.fallPos, s.pos⟩] := rfl
@[simp] theorem takeCmd_trace (v : Bool) (s : State) : (takeCmd v s).trace = s.trace := rfl

/-! ### `takeData` -/

@[simp] theorem takeData_pos (v : Bool) (s : State) : (takeData v s).pos = s.pos := rfl
@[simp] theorem takeData_primed (v : Bool) (s : State) : (takeData v s).primed = s.primed := rfl
@[simp] theorem takeData_prev (v : Bool) (s : State) : (takeData v s).prev = s.prev := rfl
@[simp] theorem takeData_phase (v : Bool) (s : State) : (takeData v s).phase = s.phase := rfl
@[simp] theorem takeData_fallPos (v : Bool) (s : State) : (takeData v s).fallPos = s.fallPos := rfl
@[simp] theorem takeData_risePos (v : Bool) (s : State) : (takeData v s).risePos = s.risePos := rfl
@[simp] theorem takeData_state (v : Bool) (s : State) : (takeData v s).state = s.state := rfl
@[simp] theorem takeData_cnt (v : Bool) (s : State) : (takeData v s).cnt = s.cnt + 1 := rfl
@[simp] theorem takeData_cmd (v : Bool) (s : State) : (takeData v s).cmd = s.cmd := rfl
@[simp] theorem takeData_sh (v : Bool) (s : State) : (takeData v s).sh = shiftIn s.cfg.msbFirst s.sh v := rfl
@[simp] theorem takeData_byteStart (v : Bool) (s : State) : (takeData v s).byteStart = s.byteStart := rfl
@[simp] theorem takeData_addr (v : Bool) (s : State) : (takeData v s).addr = s.addr := rfl
@[simp] theorem takeData_addrCnt (v : Bool) (s : State) : (takeData v s).addrCnt = s.addrCnt := rfl
@[simp] theorem takeData_addrStart (v : Bool) (s : State) : (takeData v s).addrStart = s.addrStart := rfl
@[simp] theorem takeData_rwId (v : Bool) (s : State) : (takeData v s).rwId = s.rwId := rfl
@[simp] theorem takeData_rwidValid (v : Bool) (s : State) : (takeData v s).rwidValid = s.rwidValid := rfl
@[simp] theorem takeData_dir (v : Bool) (s : State) : (takeData v s).dir = s.dir := rfl
@[simp] theorem takeData_dataCnt (v : Bool) (s : State) : (takeData v s).dataCnt = s.dataCnt := rfl
@[simp] theorem takeData_txnStart (v : Bool) (s : State) : (takeData v s).txnStart = s.txnStart := rfl
@[simp] theorem takeData_waitStart (v : Bool) (s : State) : (takeData v s).waitStart = s.waitStart := rfl
@[simp] theorem takeData_done (v : Bool) (s : State) : (takeData v s).done = s.done := rfl
@[simp] theorem takeData_cfg (v : Bool) (s : State) : (takeData v s).cfg = s.cfg := rfl
@[simp] theorem takeData_input (v : Bool) (s : State) : (takeData v s).input = s.input := rfl
@[simp] theorem takeData_out (v : Bool) (s : State) : (takeData v s).out = s.out ++ [⟨.bitsData v, s.fallPos, s.pos⟩] := rfl
@[simp] theorem takeData_trace (v : Bool) (s : State) : (takeData v s).trace = s.trace := rfl

/-! ### `finishStream` -/

@[simp] theorem finishStream_pos (s : State) : (finishStream s).pos = s.pos := rfl
@[simp] theorem finishStream_primed (s : State) : (finishStream s).primed = s.primed := rfl
@[simp] theorem finishStream_prev (s : State) : (finishStream s).prev = s.prev := rfl
@[simp] theorem finishStream_phase (s : State) : (finishStream s).phase = .waitFall := rfl
@[simp] theorem finishStream_fallPos (s : State) : (finishStream s).fallPos = s.fallPos := rfl
@[simp] theorem finishStream_risePos (s : State) : (finishStream s).risePos = s.risePos := rfl
@[simp] theorem finishStream_state (s : State) : (finishStream s).state = s.state := rfl
@[simp] theorem finishStream_cnt (s : State) : (finishStream s).cnt = 0 := rfl
@[simp] theorem finishStream_cmd (s : State) : (finishStream s).cmd = s.cmd := rfl
@[simp] theorem finishStream_sh (s : State) : (finishStream s).sh = s.sh := rfl
@[simp] theorem finishStream_byteStart (s : State) : (finishStream s).byteStart = s.byteStart := rfl
@[simp] theorem finishStream_addr (s : State) : (finishStream s).addr = s.addr := rfl
@[simp] theorem finishStream_addrCnt (s : State) : (finishStream s).addrCnt = s.addrCnt := rfl
@[simp] theorem finishStream_addrStart (s : State) : (finishStream s).addrStart = s.addrStart := rfl
@[simp] theorem finishStream_rwId (s : State) : (finishStream s).rwId = s.rwId := rfl
@[simp] theorem finishStream_rwidValid (s : State) : (finishStream s).rwidValid = s.rwidValid := rfl
@[simp] theorem finishStream_dir (s : State) : (finishStream s).dir = s.dir := rfl
@[simp] theorem finishStream_dataCnt (s : State) : (finishStream s).dataCnt = s.dataCnt := rfl
@[simp] theorem finishStream_txnStart (s : State) : (finishStream s).txnStart = s.txnStart := rfl
@[simp] theorem finishStream_waitStart (s : State) : (finishStream s).waitStart = s.waitStart := rfl
@[simp] theorem finishStream_done (s : State) : (finishStream s).done = true := rfl
@[simp] theorem finishStream_cfg (s : State) : (finishStream s).cfg = s.cfg := rfl
@[simp] theorem finishStream_input (s : State) : (finishStream s).input = s.input := rfl
@[simp] theorem finishStream_out (s : State) : (finishStream s).out = s.out := rfl
@[simp] theorem finishStream_trace (s : State) : (finishStream s).trace = s.trace := rfl

/-! ### `resetTick` -/

@[simp] theorem resetTick_pos (s : State) : (resetTick s).pos = State.reset.pos := rfl
@[simp] theorem resetTick_primed (s : State) : (resetTick s).primed = State.reset.primed := rfl
@[simp] theorem resetTick_prev (s : State) : (resetTick s).prev = State.reset.prev := rfl
@[simp] theorem resetTick_phase (s : State) : (resetTick s).phase = State.reset.phase := rfl
@[simp] theorem resetTick_fallPos (s : State) : (resetTick s).fallPos = State.reset.fallPos := rfl
@[simp] theorem resetTick_risePos (s : State) : (resetTick s).risePos = State.reset.risePos := rfl
@[simp] theorem resetTick_state (s : State) : (resetTick s).state = State.reset.state := rfl
@[simp] theorem resetTick_cnt (s : State) : (resetTick s).cnt = State.reset.cnt := rfl
@[simp] theorem resetTick_cmd (s : State) : (resetTick s).cmd = State.reset.cmd := rfl
@[simp] theorem resetTick_sh (s : State) : (resetTick s).sh = State.reset.sh := rfl
@[simp] theorem resetTick_byteStart (s : State) : (resetTick s).byteStart = State.reset.byteStart := rfl
@[simp] theorem resetTick_addr (s : State) : (resetTick s).addr = State.reset.addr := rfl
@[simp] theorem resetTick_addrCnt (s : State) : (resetTick s).addrCnt = State.reset.addrCnt := rfl
@[simp] theorem resetTick_addrStart (s : State) : (resetTick s).addrStart = State.reset.addrStart := rfl
@[simp] theorem resetTick_rwId (s : State) : (resetTick s).rwId = State.reset.rwId := rfl
@[simp] theorem resetTick_rwidValid (s : State) : (resetTick s).rwidValid = State.reset.rwidValid := rfl
@[simp] theorem resetTick_dir (s : State) : (resetTick s).dir = State.reset.dir := rfl
@[simp] theorem resetTick_dataCnt (s : State) : (resetTick s).dataCnt = State.reset.dataCnt := rfl
@[simp] theorem resetTick_txnStart (s : State) : (resetTick s).txnStart = State.reset.txnStart := rfl
@[simp] theorem resetTick_waitStart (s : State) : (resetTick s).waitStart = State.reset.waitStart := rfl
@[simp] theorem resetTick_done (s : State) : (resetTick s).done = State.reset.done := rfl
@[simp] theorem resetTick_cfg (s : State) : (resetTick s).cfg = s.cfg := rfl
@[simp] theorem resetTick_input (s : State) : (resetTick s).input = s.input := rfl
@[simp] theorem resetTick_out (s : State) : (resetTick s).out = State.reset.out := rfl
@[simp] theorem resetTick_trace (s : State) : (resetTick s).trace = State.reset.trace := rfl

end Sys2Proof.Machine
end

