-- ==== Sys2Proof/Laws/Ops.lean ====
section
/-! SUPPORT. For each shared operation, what it can do, said once. -/

namespace Sys2Proof.Machine

/-- What a legal configuration is (R24). -/
theorem legal_iff {c : Config} : c.legal = true ↔
    0 < c.sampleRate ∧ 0 < c.bitRate ∧ (c.addressBytes = 2 ∨ c.addressBytes = 3) ∧ 1 ≤ c.posW ∧ 1 ≤ c.dataCntW := by
  simp [Config.legal, and_assoc]

@[simp] theorem andThen_next (s : State) (k : State → Result) : andThen (.next s) k = k s := rfl

@[simp] theorem andThen_refused (r : Refusal) (k : State → Result) : andThen (.refused r) k = .refused r := rfl

/-- A sequence completes exactly if both its parts do. -/
theorem andThen_eq_next_iff {o : Result} {k : State → Result} {t : State} :
    andThen o k = .next t ↔ ∃ u, o = .next u ∧ k u = .next t := by
  cases o <;> simp [andThen]

/-- A sequence is refused exactly if one of its parts is. -/
theorem andThen_eq_refused_iff {o : Result} {k : State → Result} {r : Refusal} :
    andThen o k = .refused r ↔ o = .refused r ∨ ∃ u, o = .next u ∧ k u = .refused r := by
  cases o <;> simp [andThen]

theorem inState_eq_next_iff {st : TState} {s k t : State} :
    inState st s k = .next t ↔ s.state = st ∧ t = k := by
  unfold inState
  split <;> simp [*, eq_comm (a := k)]

theorem inState_eq_refused_iff {st : TState} {s k : State} {r : Refusal} :
    inState st s k = .refused r ↔ s.state ≠ st ∧ r = .outOfContext := by
  unfold inState
  split <;> simp [*, eq_comm (b := r)]

/-- For a frame symbol the assembler's delivery and `exec` are the same. -/
theorem runFrame_eq_exec {i : Instr} (h : i.isFrame = true) (s : State) : runFrame i s = exec i s := by
  cases i <;> first | rfl | simp [Instr.isFrame] at h

theorem isFrame_of_decodeMaster {st : TState} {w : BitVec 10} {i : Instr} (h : decodeMaster st w = .ok i) :
    i.isFrame = true := by
  unfold decodeMaster at h
  cases st <;> simp only at h <;> (repeat' split at h) <;> first | cases h; rfl | cases h

theorem isFrame_of_decodeSlave {st : TState} {w : BitVec 9} {i : Instr} (h : decodeSlave st w = .ok i) :
    i.isFrame = true := by
  unfold decodeSlave at h
  split at h
  · cases h; rfl
  · cases h

theorem isFrame_of_frameWire {s : State} {v : Bool} {st : TState} {i : Instr} (h : decode st (s.frameWire v) = .ok i) :
    i.isFrame = true := by
  unfold State.frameWire at h
  split at h
  · exact isFrame_of_decodeMaster h
  · exact isFrame_of_decodeSlave h

/-- A delivered byte completes exactly as the symbol it decodes to. -/
theorem deliverFrame_eq_next_iff {x : Wire} {s t : State} :
    deliverFrame x s = .next t ↔ ∃ i, decode s.state x = .ok i ∧ runFrame i s = .next t := by
  unfold deliverFrame
  cases decode s.state x <;> simp

/-- What the framing bit can do (R89). -/
theorem takeFraming_eq_next {v : Bool} {s t : State} (h : takeFraming v s = .next t) :
    ∃ i, i.isFrame = true ∧ decode s.state (s.frameWire v) = .ok i ∧
      exec i { s with out := s.out ++ [⟨.bitsData v, s.fallPos, s.pos⟩], cnt := 0 } = .next t := by
  unfold takeFraming at h
  obtain ⟨i, hd, hr⟩ := deliverFrame_eq_next_iff.1 h
  have hf := isFrame_of_frameWire hd
  exact ⟨i, hf, hd, runFrame_eq_exec hf _ ▸ hr⟩

/-- What a bit can do once its byte's shape is known (R87 to R89). -/
theorem assembleBit_eq_next {v : Bool} {s t : State} (h : assembleBit v s = .next t) :
    (s.state.shape = .master ∧ s.cnt.val = 0 ∧ t = takeCmd v s) ∨
    ((s.state.shape = .master ∧ 1 ≤ s.cnt.val ∧ s.cnt.val ≤ 8 ∨ s.state.shape = .slave ∧ s.cnt.val ≤ 7) ∧
      t = takeData v s) ∨
    ((s.state.shape = .master ∧ s.cnt.val = 9 ∨ s.state.shape = .slave ∧ 8 ≤ s.cnt.val) ∧
      takeFraming v s = .next t) := by
  have h9 := s.cnt.isLt
  unfold assembleBit at h
  split at h
  · rename_i hs
    split at h
    · exact .inl ⟨hs, ‹_›, by simpa using h.symm⟩
    · split at h
      · exact .inr (.inl ⟨.inl ⟨hs, by omega, ‹_›⟩, by simpa using h.symm⟩)
      · exact .inr (.inr ⟨.inl ⟨hs, by omega⟩, h⟩)
  · rename_i hs
    split at h
    · exact .inr (.inl ⟨.inr ⟨hs, ‹_›⟩, by simpa using h.symm⟩)
    · exact .inr (.inr ⟨.inr ⟨hs, by omega⟩, h⟩)

/-- A bit symbol that completes has gone through the assembler, and was no bit 0 in AWAITING_TRIGGER. -/
theorem exec_bit_eq_next {v : Bool} {s t : State} (h : exec (bitInstr v) s = .next t) :
    assembleBit v (arriveBit s) = .next t ∧ ¬(s.state = .awaitingTrigger ∧ v = false) := by
  cases v
  · simp only [bitInstr, exec, execBit0, Bool.false_eq_true, if_false] at h
    split at h
    · cases h
    · exact ⟨h, fun c => ‹¬_› c.1⟩
  · exact ⟨h, fun c => nomatch c.2⟩

/-- What a bad pulse does (R91): it always completes. -/
theorem exec_badPulse (s : State) :
    exec .badPulse s = .next { s with
      out := s.out ++ ⟨.bitsErr, s.fallPos, s.pos⟩ ::
        (if s.state.txnOpen then [⟨.masterError .invalidBitEncoding 0, if s.cnt = 0 then s.fallPos else s.byteStart, s.pos⟩,
          txnRecord (.error .invalidBitEncoding) s.pos s] else [])
      cnt := 0
      state := .seekingStart } := by
  simp only [exec, execBadPulse]
  cases h : s.state <;>
    simp [leaveIdle, TState.txnOpen, emit, raiseError, errorRecords, txnRecord]

/-- What a trigger can do (R108). -/
theorem exec_trigger_eq_next_iff {s t : State} :
    exec .trigger s = .next t ↔ s.state = .awaitingTrigger ∧
      t = { s with out := s.out ++ [⟨.masterTrigger, s.fallPos, s.pos⟩], state := .readingData } := by
  simp only [exec, execTrigger]
  split <;> simp [*, emit, eq_comm (b := t)]

/-- The symbol of a closed pulse is a bit or a bad pulse (R68). -/
theorem classifyStrict_cases (l h : Nat) :
    (classifyStrict l h = bitInstr false ∧ l = 1 ∧ h = 4) ∨ (classifyStrict l h = bitInstr true ∧ l = 4 ∧ h = 1) ∨
    classifyStrict l h = .badPulse := by
  unfold classifyStrict
  split
  · exact .inl ⟨rfl, ‹_›⟩
  · split
    · exact .inr (.inl ⟨rfl, ‹_›⟩)
    · exact .inr (.inr rfl)

/-- The symbol of a pulse that ran into idle is a bit or a bad pulse (R69). -/
theorem classifyIdle_cases (l : Nat) :
    (classifyIdle l = bitInstr false ∧ l = 1) ∨ (classifyIdle l = bitInstr true ∧ l = 4) ∨
    classifyIdle l = .badPulse := by
  unfold classifyIdle
  split
  · exact .inl ⟨rfl, ‹_›⟩
  · split
    · exact .inr (.inl ⟨rfl, ‹_›⟩)
    · exact .inr (.inr rfl)

/-- The symbol the end of stream closes is a bit (R76). -/
theorem classifyEos_cases {l h : Nat} {i : Instr} (e : classifyEos l h = some i) :
    (i = bitInstr false ∧ l = 1 ∧ 4 ≤ h) ∨ (i = bitInstr true ∧ l = 4 ∧ 1 ≤ h) := by
  unfold classifyEos at e
  split at e
  · exact .inl ⟨by simpa [bitInstr] using e.symm, ‹_›⟩
  · split at e
    · exact .inr ⟨by simpa [bitInstr] using e.symm, ‹_›⟩
    · cases e

end Sys2Proof.Machine
end

