-- ==== Sys2Proof/Laws/Step.lean ====
section
/-! SUPPORT. What a tick can do, said once: one inversion lemma for each phase rule, for the two ticks that consume the
stream, and for the step. -/

namespace Sys2Proof.Machine

/-- Phase WAIT_FALL (R73) always completes. -/
theorem waitFallRule_eq_next {d : Level} {s u : State} (h : waitFallRule d s = .next u) :
    (fallEdge s.prev d = true ∧ u = openPulse s) ∨
    (fallEdge s.prev d = false ∧ triggerOverdue s = true ∧ u = raiseError .missingTrigger s.waitStart s.pos 0 s) ∨
    (fallEdge s.prev d = false ∧ triggerOverdue s = false ∧ u = s) := by
  unfold waitFallRule at h
  split at h
  · exact .inl ⟨‹_›, by simpa using h.symm⟩
  · rename_i hf
    split at h
    · exact .inr (.inl ⟨by simpa using hf, ‹_›, by simpa using h.symm⟩)
    · rename_i ho
      exact .inr (.inr ⟨by simpa using hf, by simpa using ho, by simpa using h.symm⟩)

/-- Phase IN_LOW (R74). -/
theorem inLowRule_eq_next {d : Level} {s u : State} (h : inLowRule d s = .next u) :
    (riseEdge s.prev d = false ∧ u = s) ∨
    (riseEdge s.prev d = true ∧ isTrigger s.state (units s.cfg (s.pos - s.fallPos)) = true ∧
      u = { s with
        risePos := s.pos
        out := s.out ++ [⟨.masterTrigger, s.fallPos, s.pos⟩]
        state := .readingData
        phase := .waitFall }) ∨
    (riseEdge s.prev d = true ∧ isTrigger s.state (units s.cfg (s.pos - s.fallPos)) = false ∧
      u = { s with risePos := s.pos, phase := .inHigh }) := by
  unfold inLowRule at h
  split at h
  · split at h
    · obtain ⟨w, hw, rfl⟩ : ∃ w, exec .trigger { s with risePos := s.pos } = .next w ∧ closePulse w = u := by
        simpa using andThen_eq_next_iff.1 h
      obtain ⟨_, rfl⟩ := exec_trigger_eq_next_iff.1 hw
      exact .inr (.inl ⟨‹_›, ‹_›, rfl⟩)
    · rename_i ht
      exact .inr (.inr ⟨‹_›, by simpa using ht, by simpa using h.symm⟩)
  · rename_i hr
    exact .inl ⟨by simpa using hr, by simpa using h.symm⟩

/-- Phase IN_HIGH (R75). -/
theorem inHighRule_eq_next {d : Level} {s u : State} (h : inHighRule d s = .next u) :
    (isIdle s.cfg s.highSamples = true ∧
      ∃ w, exec (classifyIdle s.lowUnits) s = .next w ∧ u = afterIdleClose d s.prev w) ∨
    (isIdle s.cfg s.highSamples = false ∧ fallEdge s.prev d = true ∧
      ∃ w, exec (classifyStrict s.lowUnits s.highUnits) s = .next w ∧ u = openPulse w) ∨
    (isIdle s.cfg s.highSamples = false ∧ fallEdge s.prev d = false ∧ u = s) := by
  unfold inHighRule at h
  split at h
  · obtain ⟨w, hw, e⟩ := andThen_eq_next_iff.1 h
    exact .inl ⟨‹_›, w, hw, by simpa using e.symm⟩
  · rename_i hi
    split at h
    · obtain ⟨w, hw, e⟩ := andThen_eq_next_iff.1 h
      exact .inr (.inl ⟨by simpa using hi, ‹_›, w, hw, by simpa using e.symm⟩)
    · rename_i hf
      exact .inr (.inr ⟨by simpa using hi, by simpa using hf, by simpa using h.symm⟩)

/-- A Sample tick that completes (R143): within the contract, and then the first sample or a phase rule. -/
theorem sampleTick_eq_next {d : Level} {s u : State} (h : sampleTick d s = .next u) :
    s.cfg.legal = true ∧ s.pos + 1 < 2 ^ s.cfg.posW ∧
    ((s.primed = false ∧ u = { s with prev := d, primed := true, pos := s.pos + 1 }) ∨
      (s.primed = true ∧ ∃ w, phaseRule d s = .next w ∧ u = endSample d w)) := by
  unfold sampleTick at h
  split at h
  · cases h
  · rename_i hl
    split at h
    · cases h
    · rename_i hp
      refine ⟨by simpa using hl, Nat.lt_of_not_le hp, ?_⟩
      split at h
      · exact .inl ⟨‹_›, by simpa [endSample] using h.symm⟩
      · rename_i hq
        obtain ⟨w, hw, e⟩ := andThen_eq_next_iff.1 h
        exact .inr ⟨by simpa using hq, w, hw, by simpa using e.symm⟩

/-- The end-of-stream close that completes (R76): a bit of value `v`, or nothing. -/
theorem eosClose_eq_next {s u : State} (h : eosClose s = .next u) :
    (∃ v, exec (bitInstr v) s = .next u ∧ s.phase = .inHigh ∧ midBit s = false ∧
      (v = false → s.lowUnits = 1 ∧ 4 ≤ s.highUnits) ∧ (v = true → s.lowUnits = 4 ∧ 1 ≤ s.highUnits)) ∨
    (u = s ∧ midBit s = decide (s.phase ≠ .waitFall)) := by
  unfold eosClose at h
  cases hp : s.phase with
  | waitFall => simp only [eosSymbol, midBit, hp] at h ⊢; simpa [eq_comm] using h
  | inLow => simp only [eosSymbol, midBit, hp] at h ⊢; simpa [eq_comm] using h
  | inHigh =>
    simp only [eosSymbol, midBit, hp] at h ⊢
    cases e : classifyEos s.lowUnits s.highUnits with
    | none => simp only [e] at h; exact .inr ⟨by simpa using h.symm, by simp⟩
    | some i =>
      simp only [e] at h
      rcases classifyEos_cases e with ⟨rfl, hv⟩ | ⟨rfl, hv⟩
      · exact .inl ⟨false, h, by simp [hv]⟩
      · exact .inl ⟨true, h, by simp [hv]⟩

/-- An Eos tick that completes (R144). -/
theorem eosTick_eq_next {s u : State} (h : eosTick s = .next u) :
    s.cfg.legal = true ∧ ∃ w, eosClose s = .next w ∧ u = finishStream (prematureEnd (midBit s) w) := by
  unfold eosTick at h
  split at h
  · cases h
  · rename_i hl
    obtain ⟨w, hw, e⟩ := andThen_eq_next_iff.1 h
    exact ⟨by simpa using hl, w, hw, by simpa using e.symm⟩

/-- A step that completes: the effect of its input symbol between the start and the end of a tick (R141). -/
theorem step_eq_next {s t : State} (h : step s = .next t) :
    ∃ u, tickSymbol s.nextSymbol (beginTick s) = .next u ∧ t = recordTrace u := by
  obtain ⟨u, hu, e⟩ := andThen_eq_next_iff.1 h
  exact ⟨u, hu, by simpa using e.symm⟩

end Sys2Proof.Machine
end

