-- ==== Sys2Proof/Tests/Slice0.lean ====
section
/-! SUPPORT. Tests with expected values from the spec's worked examples, and witnesses that the hypotheses of the
obligations can be met. -/

namespace Sys2Proof.Tests

open Sys2Proof Sys2Proof.Machine

/-! ### Helpers -/

/-- A state in `st` with `cnt` bits of a byte taken, a byte from `a`, a pulse from `b`, at position `p`. -/
def at' (st : TState) (cnt : Fin 10) (a b p : Pos) : State :=
  { State.reset with primed := true, state := st, cnt := cnt, byteStart := a, fallPos := b, risePos := b, pos := p }

/-- An open pulse with `l` samples LOW and `h` samples HIGH so far, and the pin `d` on the next sample. -/
def inHighAt (s : State) (l h : Nat) (d : Level) : State :=
  { s with phase := .inHigh, prev := .high, primed := true, risePos := s.fallPos + l, pos := s.fallPos + l + h,
           input := [samplePins d] }

/-- An open LOW phase of `l` samples, and a rising edge on the next sample. -/
def inLowAt (s : State) (l : Nat) : State :=
  { s with phase := .inLow, prev := .low, primed := true, pos := s.fallPos + l, input := [samplePins .high] }

/-- The end of stream on the next edge. -/
def eosPins : Pins where
  rst := false
  sv := false
  din := .high
  eos := true

/-- A Hold on the next edge. -/
def holdPins : Pins where
  rst := false
  sv := false
  din := .low
  eos := false

/-- A Reset on the next edge, with every other pin high. -/
def resetPins : Pins where
  rst := true
  sv := true
  din := .high
  eos := true

/-- The state with the pins `p` on the next edge. -/
def withPins (s : State) (p : Pins) : State := { s with input := [p] }

/-- Both rates 1, 2-bit positions: the contract ends at position 2. -/
def tinyConfig : Config := { Config.initial with posW := 2 }

/-- What the outcome shows of its next state. -/
def see (o : Result) (f : State → α) : Option α := (nextState? o).map f

theorem completes_of {o : Result} (h : (nextState? o).isSome = true) : ∃ t, o = .next t := by
  cases o with
  | next t => exact ⟨t, rfl⟩
  | fault r => cases r
  | refused r => simp [nextState?] at h

/-! ### Well-formedness -/

/-- R56, R61: SKIP does not take the START byte. -/
theorem test_skip_start_value_refused : (Instr.skip true 0x5A false).wellFormed = false := by decide
theorem test_badEnd_end_value_refused : (Instr.badEnd 0xFF true).wellFormed = false := by decide
theorem test_skip_cmd0_start_value_ok : (Instr.skip false 0x5A false).wellFormed = true := by decide

/-! ### Decoding: words written out from R46, R47, R49, R50 (`CMD D7..D0 F`) and R56 -/

theorem test_decode_bit0 : decode .seekingStart (.pulse [.low, .high, .high, .high, .high]) = .ok .bit0 := by decide
theorem test_decode_bit1 : decode .seekingStart (.pulse [.low, .low, .low, .low, .high]) = .ok .bit1 := by decide
theorem test_decode_trigger : decode .awaitingTrigger (.pulse [.low]) = .ok .trigger := by decide
theorem test_decode_badPulse : decode .readingData (.pulse [.low, .low, .high, .high, .high]) = .ok .badPulse := by
  decide
theorem test_decode_start : decode .seekingStart (.master 0b1_01011010_1) = .ok (.start true) := by decide
theorem test_decode_skip : decode .seekingStart (.master 0b0_01011010_1) = .ok (.skip false 0x5A true) := by decide
theorem test_decode_addr : decode .readingAddress (.master 0b0_00000110_1) = .ok (.addr 0x06 true) := by decide
theorem test_decode_ctlInAddr : decode .readingAddress (.master 0b1_01011010_1) = .ok (.ctlInAddr 0x5A true) := by
  decide
theorem test_decode_rwidWr : decode .readingRwId (.master 0b0_00000011_0) = .ok (.rwidWr 3 false) := by decide
theorem test_decode_rwidRd : decode .readingRwId (.master 0b0_10000011_1) = .ok (.rwidRd 3 true) := by decide
theorem test_decode_ctlInRwid : decode .readingRwId (.master 0b1_10000000_1) = .ok (.ctlInRwid 0x80 true) := by decide
theorem test_decode_wdata : decode .writingData (.master 0b0_00000101_1) = .ok (.wdata 0x05 true) := by decide
theorem test_decode_endMark : decode .seekingEnd (.master 0b1_11111111_1) = .ok (.endMark true) := by decide
theorem test_decode_badEnd : decode .seekingEnd (.master 0b1_11111110_1) = .ok (.badEnd 0xFE true) := by decide
theorem test_decode_rdata : decode .readingData (.slave 0b10100101_1) = .ok (.rdata 0xA5 true) := by decide
theorem test_decode_unreachable : decode .writingData (.master 0b1_00000000_1) = .error .noMasterRow := by decide

/-- The words of `opcode_table.json` whose reading needs no state (log entry 12). -/
theorem test_table_words : decodeTableWord 5 0b01111 = some .bit0 ∧ decodeTableWord 8 0b00001 = some .bit1 ∧
    decodeTableWord 8 0 = some .trigger ∧ decodeTableWord 16 0x2B4 = some (.start false) ∧
    decodeTableWord 16 0x107 = some (.rwidRd 3 true) ∧ decodeTableWord 16 0x3FF = some (.endMark true) := by decide

/-! ### Numbers of the spec's examples (R66, R67, R176 at 24 MHz and 960000 bit/s) -/

theorem test_units : [2, 3, 7, 8, 17, 18, 22, 23].map (units Config.initial) = [0, 1, 1, 2, 3, 4, 4, 5] := by decide
theorem test_units_tie : [2, 6].map (units { Config.initial with sampleRate := 19200000 }) = [1, 2] := by decide
theorem test_idle : [25, 26].map (isIdle Config.initial) = [false, true] := by decide
theorem test_reset_status : State.reset.status = ⟨0, .master, false, false, 0⟩ := by decide

/-- The codes of R13, R15, R38, R150 and R127 to R130. -/
theorem test_codes : [Phase.waitFall, .inLow, .inHigh].map Phase.code = [0, 1, 2] ∧
    [ErrorKind.invalidBitEncoding, .prematureEndOfStream, .unexpectedControlByte, .malformedEndMarker,
      .missingTrigger].map ErrorKind.code = [1, 2, 3, 4, 5] ∧
    [Row.bits, .bytes, .master, .slave, .txn].map Row.code = [0, 1, 2, 3, 4] ∧
    [Payload.masterStart, .masterAddr 0, .masterRwid 0, .masterWdata 0, .masterTrigger, .masterEnd,
      .masterError .missingTrigger 0].map Payload.classCode = [0, 1, 2, 3, 4, 5, 6] := by decide

/-! ### One symbol each, expected values from the worked examples of the rule named -/

/-- R88, D10: with MSB_FIRST = 0 the bit enters from the left. -/
theorem test_bit0_lsb_first :
    see (exec .bit0 { at' .readingData 3 0 10 35 with sh := 0xF0, cfg := { Config.initial with msbFirst := false } })
      (fun t => (t.sh, t.cnt)) = some (0x78, 4) := by decide

/-- R89: a framing bit of 0 is flagged, and the byte is still START. -/
theorem test_bit0_framing :
    see (exec .bit0 { at' .seekingStart 9 10 235 260 with cmd := true, sh := 0x5A }) (fun t => (t.out, t.state, t.cnt)) =
      some ([⟨.bitsData false, 235, 260⟩, ⟨.byte 0x5A true true false, 10, 260⟩, ⟨.masterStart, 10, 260⟩],
        .readingAddress, 0) := by decide

/-- R87. -/
theorem test_bit1_cmd : see (exec .bit1 (at' .idle 0 0 10 35)) (fun t => (t.out, t.byteStart, t.cmd, t.cnt, t.state)) =
    some ([⟨.bitsCmd true, 10, 35⟩], 10, true, 1, .seekingStart) := by decide

/-- R107. -/
theorem test_bit1_early : see (exec .bit1 (at' .writingData 0 0 1510 1535)) (fun t => (t.cmd, t.cnt, t.state)) =
    some (true, 1, .seekingEnd) := by decide

/-- R108. -/
theorem test_trigger : see (exec .trigger (at' .awaitingTrigger 0 0 1010 1015)) (fun t => (t.out, t.state)) =
    some ([⟨.masterTrigger, 1010, 1015⟩], .readingData) := by decide

/-- R91. -/
theorem test_badPulse_inside :
    see (exec .badPulse (at' .readingAddress 6 510 660 685)) (fun t => (t.out.take 2, t.out.length, t.cnt, t.state)) =
      some ([⟨.bitsErr, 660, 685⟩, ⟨.masterError .invalidBitEncoding 0, 510, 685⟩], 3, 0, .seekingStart) := by decide

/-- R91, R151: outside a transaction only the Bits-row record. -/
theorem test_badPulse_outside : see (exec .badPulse (at' .idle 0 0 660 685)) (fun t => (t.out, t.cnt, t.state)) =
    some ([⟨.bitsErr, 660, 685⟩], 0, .seekingStart) := by decide

/-- R103, R19 (log entry 19). -/
theorem test_start :
    see (exec (.start true)
        { at' .seekingStart 0 10 235 260 with addr := 7, addrStart := 3, dataCnt := 9, rwidValid := true })
      (fun t => (t.txnStart, t.addr, t.addrStart, t.dataCnt, t.rwidValid)) = some (10, 0, 0, 0, false) := by
  decide

theorem test_start_record : see (exec (.start true) (at' .seekingStart 0 10 235 260)) (fun t => t.out.getLast?) =
    some (some ⟨.masterStart, 10, 260⟩) := by decide

/-- R103, R58: `Byte(0x5B, cmd = 1)`. -/
theorem test_skip : see (exec (.skip true 0x5B true) (at' .seekingStart 0 10 235 260)) (fun t => (t.out, t.state)) =
    some ([⟨.byte 0x5B true true true, 10, 260⟩], .seekingStart) := by decide

/-- R104: the third of the bytes 0x00, 0x06, 0x02. -/
theorem test_addr_last :
    see (exec (.addr 0x02 true) { at' .readingAddress 0 760 985 1010 with addr := 0x06, addrCnt := 2, addrStart := 260 })
      (fun t => (t.out.getLast?, t.addr, t.addrCnt, t.state)) =
      some (some ⟨.masterAddr 0x000602, 260, 1010⟩, 0x000602, 3, .readingRwId) := by decide

/-- R104: the first address byte gives the start of the address. -/
theorem test_addr_first :
    see (exec (.addr 0x12 true) (at' .readingAddress 0 260 485 510)) (fun t => (t.addr, t.addrCnt, t.addrStart, t.state)) =
      some (0x12, 1, 260, .readingAddress) := by decide

/-- R104, R153, Scenario B: a 0x5A with CMD 1 is no START here. -/
theorem test_ctlInAddr :
    see (exec (.ctlInAddr 0x5A true) { at' .readingAddress 0 260 485 510 with txnStart := 10 })
      (fun t => (t.out.drop 1, t.state)) =
      some ([⟨.masterError .unexpectedControlByte 0x5A, 260, 510⟩,
        ⟨.txn ⟨.error .unexpectedControlByte, 0, 0, 0, false, false, 0⟩, 10, 510⟩], .seekingStart) := by decide

/-- R105: `Byte(0x00, cmd = 0)` is WRITE, slave 0. -/
theorem test_rwidWr : see (exec (.rwidWr 0 true) (at' .readingRwId 0 1010 1235 1260))
    (fun t => (t.out.getLast?, t.dir, t.rwidValid, t.state)) =
    some (some ⟨.masterRwid 0, 1010, 1260⟩, false, true, .writingData) := by decide

/-- R105: `Byte(0x83, cmd = 0)` is READ, slave 3. -/
theorem test_rwidRd : see (exec (.rwidRd 3 true) (at' .readingRwId 0 1010 1235 1260))
    (fun t => (t.rwId, t.dir, t.waitStart, t.state)) = some (0x83, true, 1260, .awaitingTrigger) := by decide

/-- R105, R153. -/
theorem test_ctlInRwid : see (exec (.ctlInRwid 0x80 true) (at' .readingRwId 0 1010 1235 1260))
    (fun t => (t.out[1]?, t.out.length, t.state)) =
    some (some ⟨.masterError .unexpectedControlByte 0x80, 1010, 1260⟩, 3, .seekingStart) := by decide

/-- R106. -/
theorem test_wdata : see (exec (.wdata 0x05 true) (at' .writingData 0 1260 1485 1510))
    (fun t => (t.out.getLast?, t.dataCnt, t.state)) =
    some (some ⟨.masterWdata 0x05, 1260, 1510⟩, 1, .writingData) := by decide

/-- R21: `data_cnt` saturates. -/
theorem test_wdata_saturates :
    see (exec (.wdata 0x05 true) { at' .writingData 0 0 0 0 with dataCnt := 3, cfg := { Config.initial with dataCntW := 2 } })
      (fun t => t.dataCnt) = some 3 := by decide

/-- R112. -/
theorem test_endMark : see (exec (.endMark true) { at' .seekingEnd 0 1510 1735 1781 with txnStart := 10 })
    (fun t => (t.out.drop 1, t.state)) =
    some ([⟨.masterEnd, 1510, 1781⟩, ⟨.txn ⟨.ok, 0, 0, 0, false, false, 0⟩, 10, 1781⟩], .idle) := by decide

/-- R112, R154, Scenario E. -/
theorem test_badEnd : see (exec (.badEnd 0xFE true) (at' .seekingEnd 0 1510 1735 1781))
    (fun t => (t.out.take 2, t.out.length, t.state)) =
    some ([⟨.byte 0xFE true true true, 1510, 1781⟩, ⟨.masterError .malformedEndMarker 0xFE, 1510, 1781⟩], 3,
      .seekingStart) := by decide

/-- R111. -/
theorem test_rdata : see (exec (.rdata 0xA5 true) (at' .readingData 0 1025 1225 1250))
    (fun t => (t.out, t.dataCnt, t.waitStart, t.state)) =
    some ([⟨.byte 0xA5 false false true, 1025, 1250⟩, ⟨.slaveRdata 0xA5, 1025, 1250⟩], 1, 1250, .awaitingTrigger) := by
  decide

/-! ### Ticks -/

/-- R75: `fall_pos = 10`, `rise_pos = 30`, falling edge at 35: `Bit(1, 10, 35)`. -/
theorem test_tick_edge_close : see (step (inHighAt (at' .seekingStart 0 0 10 0) 20 5 .low))
    (fun t => (t.out, t.fallPos, t.phase, t.pos)) = some ([⟨.bitsCmd true, 10, 35⟩], 35, .inLow, 36) := by decide

/-- R75: the same pulse with no further edge closes at 56, and the idle event drops the byte again (R92). -/
theorem test_tick_idle_close : see (step (inHighAt (at' .seekingStart 0 0 10 0) 20 26 .high))
    (fun t => (t.out, t.phase, t.cnt, t.state)) = some ([⟨.bitsCmd true, 10, 56⟩], .waitFall, 0, .idle) := by decide

/-- R76: `fall_pos = 1735`, `rise_pos = 1755`: complete at N = 1760, mid-bit at N = 1757. -/
theorem test_tick_eos :
    [5, 2].map (fun h => see
      (step (withPins { inHighAt (at' .seekingEnd 9 1510 1735 0) 20 h .low with cmd := true, sh := 0xFF } eosPins))
      (fun t => t.out.map fun r => r.payload.classCode)) = [some [0, 0, 5, 0], some [6, 0]] := by decide

/-- The host's table word: placed from reset, the next step runs it (log entry 13). -/
theorem test_fetchWord : see (step (State.reset.withFetchWord 16 0x2B5)) (fun t => (t.state, t.cnt)) =
    some (.readingAddress, 0) ∧
    see (step (State.reset.withFetchWord 8 0)) (fun t => t.state) = some .readingData := by decide

/-! ### Witnesses: the hypotheses of each obligation can be met -/

theorem test_wit_ResetTickRestoresRegisters :
    (withPins (at' .readingData 8 0 0 9) resetPins).input = resetPins :: [] ∧ resetPins.rst = true := by decide

theorem test_wit_DoneIgnoresAllButReset :
    ({ State.reset with done := true, input := [eosPins] }.done = true ∧
      { State.reset with done := true, input := [eosPins] }.nextSymbol ≠ .reset) ∧
    { State.reset with done := true }.nextSymbol ≠ .reset ∧
    (∃ t, step { State.reset with done := true, input := [eosPins] } = .next t) :=
  ⟨by decide, by decide, completes_of (by decide)⟩

theorem test_wit_HoldChangesNothing : (withPins State.reset holdPins).input = holdPins :: [] ∧ holdPins.rst = false ∧
    holdPins.eos = false ∧ holdPins.sv = false := by decide

theorem test_wit_EosWinsOverSample : State.reset.done = false ∧ eosPins.rst = false ∧
    { eosPins with sv := true }.rst = false ∧ eosPins.eos = true ∧ { eosPins with sv := true }.eos = true ∧
    (∃ t, step { State.reset with input := [eosPins] } = .next t) :=
  ⟨rfl, rfl, rfl, rfl, rfl, completes_of (by decide)⟩

/-- At the last position of the contract. -/
theorem test_wit_FirstSampleOnlyPrimes :
    { State.reset with cfg := tinyConfig, pos := 2, input := [samplePins .low] }.nextSymbol = .sample .low ∧
    State.reset.primed = false ∧ tinyConfig.legal = true ∧ 2 + 1 < 2 ^ tinyConfig.posW := by decide

theorem test_wit_TickMovesPositionAndPins : (∃ t, step (withPins State.reset resetPins) = .next t) ∧
    (∃ t, step (withPins State.reset (samplePins .low)) = .next t) ∧
    (∃ t, step { State.reset with done := true } = .next t) ∧
    (∃ t, step (withPins State.reset eosPins) = .next t) ∧ (∃ t, step State.reset = .next t) :=
  ⟨completes_of (by decide), completes_of (by decide), completes_of (by decide), completes_of (by decide),
    completes_of (by decide)⟩

theorem test_wit_OutsideTheContractIsRefused :
    { Config.initial with addressBytes := 1 }.legal = false ∧ (withPins State.reset eosPins).nextSymbol = .eos ∧
    (withPins State.reset (samplePins .low)).nextSymbol = .sample .low ∧ tinyConfig.legal = true ∧
    2 ^ tinyConfig.posW ≤ 3 + 1 := by decide

theorem test_wit_UnitsIsTheNearestCount : Config.initial.legal = true ∧ 1 ≤ 1 ∧ units Config.initial 3 = 1 := by decide

theorem test_wit_IdleThresholdInSamples : Config.initial.legal = true := by decide

/-- A HIGH line, at the last position of the contract. -/
theorem test_wit_FallingEdgeOpensPulse :
    let s := { State.reset with cfg := tinyConfig, primed := true, pos := 2, input := [samplePins .low] }
    s.nextSymbol = .sample .low ∧ s.primed = true ∧ s.prev = .high ∧ s.cfg.legal = true ∧ s.pos + 1 < 2 ^ s.cfg.posW ∧
      s.phase = .waitFall := by decide

theorem test_wit_RisingEdgeGoesOn :
    let s := inLowAt (at' .awaitingTrigger 0 0 1010 0) 20
    s.nextSymbol = .sample .high ∧ s.primed = true ∧ s.prev = .low ∧ s.cfg.legal = true ∧ s.pos + 1 < 2 ^ s.cfg.posW ∧
      s.phase = .inLow ∧ ¬(s.state = .awaitingTrigger ∧ units s.cfg (s.pos - s.fallPos) = 1) := by decide

/-- Each phase at its boundary: the last tick of the trigger's wait, a rising edge in WAIT_FALL, a LOW that goes on, a HIGH
of exactly one bit period. -/
theorem test_wit_QuietSampleChangesNothing :
    let a := { at' .awaitingTrigger 0 0 0 1510 with waitStart := 1260, input := [samplePins .high] }
    let b := { at' .idle 0 0 0 3 with prev := .low, input := [samplePins .high] }
    let c := { inLowAt (at' .idle 0 0 0 0) 5 with input := [samplePins .low] }
    let e := inHighAt (at' .seekingStart 0 0 10 0) 5 25 .high
    (a.nextSymbol = .sample .high ∧ a.primed = true ∧ a.cfg.legal = true ∧ a.pos + 1 < 2 ^ a.cfg.posW ∧
      a.phase = .waitFall ∧ ¬(a.prev = .high ∧ Level.high = .low) ∧ ¬(a.cfg.trigWait < a.pos - a.waitStart)) ∧
    (b.nextSymbol = .sample .high ∧ b.primed = true ∧ b.phase = .waitFall ∧ b.prev = .low ∧
      b.state ≠ .awaitingTrigger) ∧
    (c.nextSymbol = .sample .low ∧ c.primed = true ∧ c.phase = .inLow ∧ ¬(c.prev = .low ∧ Level.low = .high)) ∧
    (e.nextSymbol = .sample .high ∧ e.primed = true ∧ e.phase = .inHigh ∧ isIdle e.cfg e.highSamples = false) := by
  decide

/-- The HIGH phase exactly one bit period long. -/
theorem test_wit_StepRunsEdgeClosedPulse :
    let s := inHighAt (at' .seekingStart 0 0 10 0) 5 25 .low
    s.nextSymbol = .sample .low ∧ s.primed = true ∧ s.prev = .high ∧ s.cfg.legal = true ∧ s.pos + 1 < 2 ^ s.cfg.posW ∧
      s.phase = .inHigh ∧ isIdle s.cfg s.highSamples = false := by decide

/-- One sample longer. -/
theorem test_wit_StepRunsIdleClosedPulse :
    let s := inHighAt (at' .seekingStart 0 0 10 0) 5 26 .low
    s.nextSymbol = .sample .low ∧ s.primed = true ∧ s.prev = .high ∧ s.cfg.legal = true ∧ s.pos + 1 < 2 ^ s.cfg.posW ∧
      s.phase = .inHigh ∧ isIdle s.cfg s.highSamples = true := by decide

theorem test_wit_StepRunsTrigger :
    let s := inLowAt (at' .awaitingTrigger 0 0 1010 0) 7
    s.nextSymbol = .sample .high ∧ s.primed = true ∧ s.prev = .low ∧ s.cfg.legal = true ∧ s.pos + 1 < 2 ^ s.cfg.posW ∧
      s.phase = .inLow ∧ s.state = .awaitingTrigger ∧ units s.cfg (s.pos - s.fallPos) = 1 := by decide

theorem test_wit_StepRunsPulseAtEos :
    let s := withPins (inHighAt (at' .seekingStart 0 0 10 0) 5 18 .low) eosPins
    let u := withPins (inHighAt (at' .seekingStart 0 0 10 0) 20 3 .low) eosPins
    s.nextSymbol = .eos ∧ s.cfg.legal = true ∧ s.phase = .inHigh ∧ s.lowUnits = 1 ∧ s.highUnits = 4 ∧
      u.nextSymbol = .eos ∧ u.cfg.legal = true ∧ u.phase = .inHigh ∧ u.lowUnits = 4 ∧ u.highUnits = 1 := by decide

/-- Every constructor, at operands at the ends of their ranges. -/
theorem test_wit_DecodeInvertsEncode :
    ([(.idle, .bit0), (.seekingEnd, .bit1), (.awaitingTrigger, .trigger), (.writingData, .badPulse),
      (.seekingStart, .start false), (.seekingStart, .skip true 0x5B true), (.readingAddress, .addr 0xFF false),
      (.readingAddress, .ctlInAddr 0 true), (.readingRwId, .rwidWr 127 true), (.readingRwId, .rwidRd 0 false),
      (.readingRwId, .ctlInRwid 0xFF false), (.writingData, .wdata 0xFF true), (.seekingEnd, .endMark false),
      (.seekingEnd, .badEnd 0xFE true), (.readingData, .rdata 0 false)] : List (TState × Instr)).all
      (fun p => p.2.wellFormed && p.2.legalIn p.1) = true := by decide

theorem test_wit_DecodedSymbolEncodesBack : decode .seekingEnd (.master 0x2B5) = .ok (.badEnd 0x5A true) ∧
    decode .readingData (.slave 0x1FF) = .ok (.rdata 0xFF true) ∧
    decode .idle (.pulse [.low, .high]) = .ok .badPulse := by decide

theorem test_wit_CmdBitResult : ∀ st ∈ ([.idle, .readingRwId, .writingData] : List TState), ∀ v : Bool,
    (at' st 0 0 0 0).cnt = 0 ∧ (at' st 0 0 0 0).state.shape = .master ∧ ¬(st = .awaitingTrigger ∧ v = false) := by
  decide

theorem test_wit_DataBitResult :
    (∀ k ∈ ([1, 8] : List (Fin 10)), (at' .writingData k 0 0 0).state.shape = .master ∧ 1 ≤ k.val ∧ k.val ≤ 8) ∧
    (∀ k ∈ ([0, 7] : List (Fin 10)), (at' .readingData k 0 0 0).state.shape = .slave ∧ k.val ≤ 7) ∧
    ¬(TState.writingData = .awaitingTrigger ∧ false = false) ∧ ¬(TState.readingData = .awaitingTrigger ∧ false = false) := by
  decide

theorem test_wit_FramingBitRunsTheFrame :
    let s := { at' .writingData 9 0 0 0 with sh := 0x05 }
    let u := { at' .readingData 8 0 0 0 with sh := 0xA5 }
    s.state ≠ .idle ∧ s.state.shape = .master ∧ s.cnt = 9 ∧
      decode s.state (.master (masterWord s.cmd s.sh true)) = .ok (.wdata 0x05 true) ∧
      u.state ≠ .idle ∧ u.state.shape = .slave ∧ u.cnt = 8 ∧
      decode u.state (.slave (slaveWord u.sh false)) = .ok (.rdata 0xA5 false) := by decide

theorem test_wit_FrameBitsRunTheFrame :
    State.reset.cfg.msbFirst = true ∧ State.reset.cnt = 0 ∧ State.reset.state.shape = .master ∧
    TState.seekingStart = afterCmd (leaveIdle State.reset.state) true ∧
    decode .seekingStart (.master (masterWord true 0x5A false)) = .ok (.start false) ∧
    TState.seekingEnd = afterCmd (leaveIdle .awaitingTrigger) true ∧
    decode .seekingEnd (.master (masterWord true 0xFF true)) = .ok (.endMark true) ∧
    (at' .readingData 0 0 0 0).cfg.msbFirst = true ∧ (at' .readingData 0 0 0 0).cnt = 0 ∧
    decode .readingData (.slave (slaveWord 0xA5 true)) = .ok (.rdata 0xA5 true) := by decide

theorem test_wit_BadPulseResult :
    (at' .idle 0 0 0 0).state.txnOpen = false ∧ (at' .seekingEnd 9 0 0 0).state.txnOpen = true := by decide

theorem test_wit_IdleEventResult : (at' .seekingStart 9 0 0 0).state = .seekingStart ∧
    (at' .readingAddress 3 0 0 0).state ≠ .seekingStart := by decide

/-- Also for StartClearsTheAddressRegisters. -/
theorem test_wit_SeekingStartByteResult : (at' .seekingStart 0 10 0 260).state = .seekingStart ∧
    (at' .seekingStart 0 10 0 260).cnt = 0 := by decide

/-- An address of 3 bytes: its second byte is not the last, its third is. -/
theorem test_wit_ReadingAddressByteResult :
    let s := { at' .readingAddress 0 510 0 760 with addrCnt := 1 }
    let u := { at' .readingAddress 0 760 0 1010 with addrCnt := 2 }
    s.state = .readingAddress ∧ s.addrCnt.val + 1 ≠ s.cfg.addressBytes ∧ u.state = .readingAddress ∧
      u.addrCnt.val + 1 = u.cfg.addressBytes := by decide

theorem test_wit_ReadingRwIdByteResult : (at' .readingRwId 0 1010 0 1260).state = .readingRwId := by decide
theorem test_wit_WritingDataByteResult : (at' .writingData 0 1260 0 1510).state = .writingData := by decide
theorem test_wit_TriggerResult : (at' .awaitingTrigger 0 0 1010 1015).state = .awaitingTrigger := by decide
theorem test_wit_ReadingDataByteResult : (at' .readingData 0 1025 0 1250).state = .readingData ∧
    (at' .readingData 0 1025 0 1250).cnt = 0 := by decide
theorem test_wit_SeekingEndByteResult : (at' .seekingEnd 0 1510 0 1781).state = .seekingEnd := by decide

theorem test_wit_SymbolWithoutRowIsRefused :
    let s := { at' .writingData 9 0 0 0 with cmd := true }
    (at' .awaitingTrigger 0 0 0 0).state = .awaitingTrigger ∧
    (s.state ≠ .idle ∧ s.state.shape = .master ∧ s.cnt = 9 ∧ ¬(s.state = .awaitingTrigger ∧ true = false) ∧
      decode s.state (.master (masterWord s.cmd s.sh true)) = .error .noMasterRow) ∧
    (Instr.isFrame (.wdata 0 true) = true ∧ Instr.legalIn State.reset.state (.wdata 0 true) = false) ∧
    Instr.legalIn State.reset.state .trigger = false := by decide

/-- A symbol that completes in a state, for the statements about the next state of `exec`. -/
theorem test_wit_SymbolsOnlyAppendRecords : ∃ t, exec (.rdata 0xA5 true) (at' .readingData 0 1025 1225 1250) = .next t :=
  completes_of (by decide)

theorem test_wit_RegistersOfTheOtherPart :
    (Instr.rdata 0xA5 true ≠ .bit0 ∧ Instr.rdata 0xA5 true ≠ .bit1 ∧
      ∃ t, exec (.rdata 0xA5 true) (at' .readingData 0 1025 1225 1250) = .next t) ∧
    (Instr.bit1.isFrame = false ∧ (at' .readingData 7 0 0 0).state.shape = .slave ∧ (at' .readingData 7 0 0 0).cnt.val ≤ 7 ∧
      ∃ t, exec .bit1 (at' .readingData 7 0 0 0) = .next t) ∧
    ((at' .writingData 8 0 0 0).state.shape = .master ∧ (at' .writingData 8 0 0 0).cnt.val ≤ 8 ∧
      ∃ t, exec .bit0 (at' .writingData 8 0 0 0) = .next t) ∧
    (Instr.badPulse.isFrame = false ∧ ∃ t, exec .badPulse (at' .writingData 9 0 0 0) = .next t) :=
  ⟨⟨by decide, by decide, completes_of (by decide)⟩, ⟨by decide, by decide, by decide, completes_of (by decide)⟩,
    ⟨by decide, by decide, completes_of (by decide)⟩, by decide, completes_of (by decide)⟩

theorem test_wit_FramingBitNeverSteers :
    (∃ t, exec ((Instr.endMark true).withFraming false) (at' .seekingEnd 0 1510 0 1781) = .next t) ∧
    exec ((Instr.endMark true).withFraming false) State.reset = .refused .outOfContext :=
  ⟨completes_of (by decide), rfl⟩

/-- On the first tick past the wait, and (for the first clause) on the tick before it, where no error is raised. -/
theorem test_wit_MissingTriggerExactly :
    let s := { at' .awaitingTrigger 0 0 0 1511 with waitStart := 1260, input := [samplePins .high] }
    (s.nextSymbol = .sample .high ∧ s.primed = true ∧ s.cfg.legal = true ∧ s.pos + 1 < 2 ^ s.cfg.posW ∧
      s.state = .awaitingTrigger ∧ s.phase = .waitFall ∧ ¬(s.prev = .high ∧ Level.high = .low) ∧
      s.cfg.trigWait < s.pos - s.waitStart) ∧
    see (step { s with pos := 1510 }) (fun t => t.out) = some [] ∧ (∃ t, step s = .next t) :=
  ⟨by decide, by decide, completes_of (by decide)⟩

theorem test_wit_EosWithoutCompletePulse :
    (withPins (at' .idle 0 0 0 9) eosPins).nextSymbol = .eos ∧ (at' .idle 0 0 0 9).cfg.legal = true ∧
    (at' .idle 0 0 0 9).phase = .waitFall ∧ (inLowAt (at' .idle 0 0 0 0) 20).phase = .inLow ∧
    (inHighAt (at' .idle 0 0 0 0) 20 2 .low).phase = .inHigh ∧
    (inHighAt (at' .idle 0 0 0 0) 20 2 .low).lowUnits ≠ 1 ∧ (inHighAt (at' .idle 0 0 0 0) 20 2 .low).highUnits = 0 := by
  decide

theorem test_wit_EosLeavesNothingOpen : (withPins (at' .readingData 3 0 0 9) eosPins).nextSymbol = .eos ∧
    (∃ t, step (withPins (at' .readingData 3 0 0 9) eosPins) = .next t) :=
  ⟨by decide, completes_of (by decide)⟩

/-- A tick that takes an error: for OneErrorPerTick, ErrorResynchronises and RecordsEndAtTheTick. -/
theorem test_wit_ErrorResynchronises :
    (∃ t, step (withPins (at' .readingData 3 0 0 9) eosPins) = .next t) ∧
    see (step (withPins (at' .readingData 3 0 0 9) eosPins)) (fun t => t.out.any Record.isError) = some true :=
  ⟨completes_of (by decide), by decide⟩

/-- The idle close of a bad pulse takes an error and ends in IDLE; the error of a byte and the error of a pulse leave with
their lower rows (RowsShowGroundTruth). -/
theorem test_wit_ErrorRows :
    (∃ t, step (inHighAt (at' .readingAddress 3 0 10 0) 10 26 .high) = .next t) ∧
    see (step (inHighAt (at' .readingAddress 3 0 10 0) 10 26 .high)) (fun t => (t.out.map Record.row, t.state)) =
      some ([.bits, .master, .txn], .idle) ∧
    see (step { inHighAt (at' .readingAddress 9 260 485 0) 20 5 .low with cmd := true }) (fun t => t.out.map Record.row) =
      some [.bits, .bytes, .master, .txn] :=
  ⟨completes_of (by decide), by decide, by decide⟩

/-- The tick that closes a transaction: records on four ports (SampleTickPortOrder, RowsShowGroundTruth). -/
theorem test_wit_SampleTickPortOrder :
    let s := { inHighAt (at' .seekingEnd 9 1510 1735 0) 20 26 .high with cmd := true, sh := 0xFF }
    s.nextSymbol = .sample .high ∧ (∃ t, step s = .next t) ∧
      see (step s) (fun t => t.out.map fun r => r.row.code) = some [0, 1, 2, 4] :=
  ⟨by decide, completes_of (by decide), by decide⟩

/-- The end of stream closes the RW_ID byte, and the transaction is then cut off: two Master-row records. -/
theorem test_wit_EosTickPortCapacity :
    let s := withPins (inHighAt (at' .readingRwId 9 1010 1235 0) 20 5 .low) eosPins
    s.nextSymbol = .eos ∧ (∃ t, step s = .next t) ∧
      see (step s) (fun t => t.out.countP fun r => r.row == .master) = some 2 :=
  ⟨by decide, completes_of (by decide), by decide⟩

/-- In READING_DATA, in the middle of a byte and of a pulse, after the START of the open transaction. -/
def running : State :=
  { inHighAt (at' .readingData 3 1025 1100 0) 5 20 .low with
    addrCnt := 3
    rwId := 0x83
    rwidValid := true
    dir := true
    waitStart := 1000
    txnStart := 10
    trace := [⟨.masterStart, 10, 260⟩, ⟨.masterTrigger, 1010, 1015⟩, ⟨.bitsData true, 1075, 1100⟩] }

theorem test_wit_running_inv : Inv running := by constructor <;> decide
theorem test_wit_running_spans : SpanInv running := by
  constructor
  · unfold Follows
    decide
  all_goals decide
theorem test_wit_running_balanced : TxnBalanced running := by
  unfold TxnBalanced
  decide

/-- For StepKeepsRegisterInvariants, StepKeepsSpanOrder, StepKeepsTransactionBalance and EveryTickCompletes. -/
theorem test_wit_StepKeepsInvariants : Inv running ∧ SpanInv running ∧ TxnBalanced running ∧
    running.cfg.legal = true ∧ running.pos + 1 < 2 ^ running.cfg.posW ∧ ∃ t, step running = .next t :=
  ⟨test_wit_running_inv, test_wit_running_spans, test_wit_running_balanced, by decide, by decide,
    completes_of (by decide)⟩

theorem test_wit_HoldTicksDoNotMatter : ∃ t, runTicks [holdPins, samplePins .low].length
    { State.reset with input := [holdPins, samplePins .low] } = .next t :=
  completes_of (by decide)

/-- For both transaction statements: an address of 3 bytes from the reset state. -/
theorem test_wit_TransactionDecodes : State.reset.cfg.legal = true ∧ State.reset.cfg.msbFirst = true ∧
    ([(0x00, true), (0x06, true), (0x02, false)] : List (Byte × Bool)).length = State.reset.cfg.addressBytes ∧
    State.reset.cnt = 0 ∧ State.reset.state.txnOpen = false := by decide

end Sys2Proof.Tests
end

section
/-! SUPPORT. What a tick leaves alone: no symbol touches the classifier, and no phase rule touches what the run itself
is made of. -/

namespace Sys2Proof.Machine

/-- What no symbol and no phase rule writes: position, edge detector, `done`, configuration, pins and the run's records
(R71, R143, R181). -/
structure SameRun (s t : State) : Prop where
  pos : t.pos = s.pos
  primed : t.primed = s.primed
  prev : t.prev = s.prev
  done : t.done = s.done
  cfg : t.cfg = s.cfg
  input : t.input = s.input
  trace : t.trace = s.trace

/-- What no symbol writes: also the pulse that the classifier has open (R13, R14). -/
structure SamePulse (s t : State) : Prop extends SameRun s t where
  phase : t.phase = s.phase
  fallPos : t.fallPos = s.fallPos
  risePos : t.risePos = s.risePos

theorem SameRun.trans {s t u : State} (h : SameRun s t) (k : SameRun t u) : SameRun s u where
  pos := k.pos.trans h.pos
  primed := k.primed.trans h.primed
  prev := k.prev.trans h.prev
  done := k.done.trans h.done
  cfg := k.cfg.trans h.cfg
  input := k.input.trans h.input
  trace := k.trace.trans h.trace

theorem SamePulse.trans {s t u : State} (h : SamePulse s t) (k : SamePulse t u) : SamePulse s u where
  toSameRun := h.toSameRun.trans k.toSameRun
  phase := k.phase.trans h.phase
  fallPos := k.fallPos.trans h.fallPos
  risePos := k.risePos.trans h.risePos

/-- A state that differs only in the decoder's registers and the ports. For a state that an operation writes out, the
hypothesis is `rfl`. -/
theorem samePulse_of_eq {s t : State}
    (h : t = { s with
      state := t.state, cnt := t.cnt, cmd := t.cmd, sh := t.sh, byteStart := t.byteStart, addr := t.addr
      addrCnt := t.addrCnt, addrStart := t.addrStart, rwId := t.rwId, rwidValid := t.rwidValid, dir := t.dir
      dataCnt := t.dataCnt, txnStart := t.txnStart, waitStart := t.waitStart, out := t.out }) :
    SamePulse s t := by
  rw [h]
  exact ⟨⟨rfl, rfl, rfl, rfl, rfl, rfl, rfl⟩, rfl, rfl, rfl⟩

theorem samePulse_refl (s : State) : SamePulse s s := samePulse_of_eq rfl

theorem sameRun_openPulse (s : State) : SameRun s (openPulse s) := by constructor <;> rfl

theorem sameRun_afterIdleClose (d prev : Level) (s : State) : SameRun s (afterIdleClose d prev s) := by
  unfold afterIdleClose
  split <;> constructor <;> rfl

/-- A state answered by `inState` leaves alone what the state put to it does. -/
theorem samePulse_of_inState {st : TState} {s k t : State} (h : inState st s k = .next t) (hk : SamePulse s k) :
    SamePulse s t := by
  obtain ⟨-, rfl⟩ := inState_eq_next_iff.1 h
  exact hk

theorem samePulse_exec_frame {i : Instr} {s t : State} (hf : i.isFrame = true) (h : exec i s = .next t) :
    SamePulse s t := by
  cases i with
  | bit0 | bit1 | trigger | badPulse => cases hf
  | start | skip | addr | ctlInAddr | rwidWr | rwidRd | ctlInRwid | wdata | endMark | badEnd | rdata =>
    exact samePulse_of_inState h (samePulse_of_eq rfl)

theorem samePulse_takeFraming {v : Bool} {s t : State} (h : takeFraming v s = .next t) : SamePulse s t := by
  obtain ⟨i, hf, -, he⟩ := takeFraming_eq_next h
  exact .trans (samePulse_of_eq rfl) (samePulse_exec_frame hf he)

theorem samePulse_assembleBit {v : Bool} {s t : State} (h : assembleBit v s = .next t) : SamePulse s t := by
  rcases assembleBit_eq_next h with ⟨-, -, rfl⟩ | ⟨-, rfl⟩ | ⟨-, hf⟩
  · exact samePulse_of_eq rfl
  · exact samePulse_of_eq rfl
  · exact samePulse_takeFraming hf

theorem samePulse_exec_bit {v : Bool} {s t : State} (h : exec (bitInstr v) s = .next t) : SamePulse s t :=
  .trans (samePulse_of_eq rfl) (samePulse_assembleBit (exec_bit_eq_next h).1)

/-- No symbol touches the classifier (R143). -/
theorem samePulse_exec {i : Instr} {s t : State} (h : exec i s = .next t) : SamePulse s t := by
  cases i with
  | bit0 => exact samePulse_exec_bit (v := false) h
  | bit1 => exact samePulse_exec_bit (v := true) h
  | trigger =>
    obtain ⟨-, rfl⟩ := exec_trigger_eq_next_iff.1 h
    exact samePulse_of_eq rfl
  | badPulse =>
    rw [exec_badPulse] at h
    cases h
    exact samePulse_of_eq rfl
  | start | skip | addr | ctlInAddr | rwidWr | rwidRd | ctlInRwid | wdata | endMark | badEnd | rdata =>
    exact samePulse_exec_frame rfl h

/-- No phase rule moves the position or touches the edge detector: the end of the Sample tick does (R71, R143). -/
theorem sameRun_phaseRule {d : Level} {s u : State} (h : phaseRule d s = .next u) : SameRun s u := by
  unfold phaseRule at h
  split at h
  · rcases waitFallRule_eq_next h with ⟨-, rfl⟩ | ⟨-, -, rfl⟩ | ⟨-, -, rfl⟩
    · exact sameRun_openPulse s
    · exact (samePulse_of_eq rfl).toSameRun
    · exact (samePulse_refl _).toSameRun
  · rcases inLowRule_eq_next h with ⟨-, rfl⟩ | ⟨-, -, rfl⟩ | ⟨-, -, rfl⟩ <;> constructor <;> rfl
  · rcases inHighRule_eq_next h with ⟨-, w, hw, rfl⟩ | ⟨-, -, w, hw, rfl⟩ | ⟨-, -, rfl⟩
    · exact (samePulse_exec hw).toSameRun.trans (sameRun_afterIdleClose ..)
    · exact (samePulse_exec hw).toSameRun.trans (sameRun_openPulse w)
    · exact (samePulse_refl _).toSameRun

theorem samePulse_eosClose {s u : State} (h : eosClose s = .next u) : SamePulse s u := by
  rcases eosClose_eq_next h with ⟨v, hv, -⟩ | ⟨rfl, -⟩
  · exact samePulse_exec hv
  · exact samePulse_refl _

theorem samePulse_prematureEnd (mid : Bool) (s : State) : SamePulse s (prematureEnd mid s) := by
  unfold prematureEnd
  split
  · exact samePulse_of_eq rfl
  · exact samePulse_refl s

/-- What a Sample tick does to the fields outside the decoder (R11, R143). -/
theorem sampleTick_frame {d : Level} {s u : State} (h : sampleTick d s = .next u) :
    u.pos = s.pos + 1 ∧ u.done = s.done ∧ u.cfg = s.cfg ∧ u.input = s.input ∧ u.trace = s.trace := by
  obtain ⟨-, -, ⟨-, rfl⟩ | ⟨-, w, hw, rfl⟩⟩ := sampleTick_eq_next h
  · exact ⟨rfl, rfl, rfl, rfl, rfl⟩
  · have k := sameRun_phaseRule hw
    simp [k.pos, k.done, k.cfg, k.input, k.trace]

/-- What an Eos tick does to the fields outside the decoder (R23, R144). -/
theorem eosTick_frame {s u : State} (h : eosTick s = .next u) :
    u.pos = s.pos ∧ u.done = true ∧ u.cfg = s.cfg ∧ u.input = s.input ∧ u.trace = s.trace := by
  obtain ⟨-, w, hw, rfl⟩ := eosTick_eq_next h
  have k := (samePulse_eosClose hw).trans (samePulse_prematureEnd (midBit s) w)
  simp [k.pos, k.cfg, k.input, k.trace]

/-! ### The steps that are known without their symbol's meaning -/

/-- A refused symbol refuses the step. -/
theorem step_eq_refused {s : State} {r : Refusal} (h : tickSymbol s.nextSymbol (beginTick s) = .refused r) :
    step s = .refused r := by
  unfold step tick
  rw [h, andThen_refused]

/-- While `done = 1` every tick but Reset is ignored (R23, R141). -/
theorem nextSymbol_eq_ignored {s : State} (hd : s.done = true) (hr : s.nextSymbol ≠ .reset) :
    s.nextSymbol = .ignored := by
  cases hi : s.input with
  | nil => simp [State.nextSymbol, hi, hd]
  | cons p rest =>
    simp only [State.nextSymbol, hi, hd, Pins.symbol] at hr ⊢
    split at hr
    · exact absurd rfl hr
    · simp [*]

/-- An ignored tick takes its pins and empties the ports (R23). -/
theorem step_ignored {s : State} (h : s.nextSymbol = .ignored) :
    step s = .next { s with input := s.input.tail, out := [] } := by
  simp [step, tick, h, tickSymbol, recordTrace, beginTick]

theorem sampleTick_illegal (d : Level) {s : State} (h : s.cfg.legal = false) :
    sampleTick d s = .refused .illegalConfiguration := if_pos h

theorem eosTick_illegal {s : State} (h : s.cfg.legal = false) : eosTick s = .refused .illegalConfiguration := if_pos h

theorem sampleTick_tooLong (d : Level) {s : State} (hl : s.cfg.legal = true) (hp : 2 ^ s.cfg.posW ≤ s.pos + 1) :
    sampleTick d s = .refused .captureTooLong := by
  simp [sampleTick, hl, hp]

end Sys2Proof.Machine
end

section
/-! SUPPORT. The invariants of R29 in three parts, each over the registers it speaks of: the byte assembler's, the
transaction's, the classifier's. -/

namespace Sys2Proof.Machine

/-- I-2 to I-6: what `state` says of the byte being assembled. -/
structure ByteInv (st : TState) (cnt : Fin 10) (cmd : Bool) : Prop where
  slaveCnt : st = .readingData → cnt.val ≤ 8
  idleCnt : st = .idle → cnt = 0
  awaitCnt : st = .awaitingTrigger → cnt = 0
  endCmd : st = .seekingEnd → 1 ≤ cnt.val ∧ cmd = true
  writeCmd : st = .writingData → 1 ≤ cnt.val → cmd = false

/-- I-7 and R19: what `state` says of the address received so far, with `bytes` address bytes configured. -/
structure AddrInv (st : TState) (bytes : Nat) (addr : Addr) (cnt : Fin 4) : Prop where
  le : cnt.val ≤ bytes
  full : st.txnOpen = true → st ≠ .readingAddress → cnt.val = bytes
  more : st = .readingAddress → cnt.val < bytes
  width : addr.toNat < 256 ^ cnt.val

/-- The transaction registers: the address, the direction (R20) and the data counter (R21). -/
structure TxnInv (s : State) : Prop where
  addr : AddrInv s.state s.cfg.addressBytes s.addr s.addrCnt
  dirBit : s.rwidValid = true → s.dir = rwidDir s.rwId
  dataWidth : s.dataCnt ≤ 2 ^ s.cfg.dataCntW - 1

/-- The part of the invariants that symbols can break. -/
structure SymbolInv (s : State) : Prop where
  byte : ByteInv s.state s.cnt s.cmd
  txn : TxnInv s

/-- I-8, I-9 and R11: the position and the open pulse. -/
structure PulseInv (s : State) : Prop where
  lowOrder : s.phase = .inLow → s.fallPos ≤ s.pos
  highOrder : s.phase = .inHigh → s.fallPos ≤ s.risePos ∧ s.risePos ≤ s.pos
  lowPrev : s.phase = .inLow → s.prev = .low
  highPrev : s.phase = .inHigh → s.prev = .high
  openPrimed : s.phase ≠ .waitFall → s.primed = true
  noLateTrigger : s.state = .awaitingTrigger → s.phase = .inHigh → s.lowUnits ≠ 1
  posWidth : s.pos < 2 ^ s.cfg.posW

theorem inv_iff {s : State} : Inv s ↔ SymbolInv s ∧ PulseInv s where
  mp h :=
    ⟨⟨⟨h.slaveCnt, h.idleCnt, h.awaitCnt, h.endCmd, h.writeCmd⟩,
      ⟨h.addrLe, h.addrFull, h.addrMore, h.addrWidth⟩, h.dirBit, h.dataWidth⟩,
      h.lowOrder, h.highOrder, h.lowPrev, h.highPrev, h.openPrimed, h.noLateTrigger, h.posWidth⟩
  mpr := by
    rintro ⟨⟨hb, ha, hdir, hdata⟩, hp⟩
    exact
      { slaveCnt := hb.slaveCnt, idleCnt := hb.idleCnt, awaitCnt := hb.awaitCnt, endCmd := hb.endCmd
        writeCmd := hb.writeCmd, addrLe := ha.le, addrFull := ha.full, addrMore := ha.more, addrWidth := ha.width
        dirBit := hdir, dataWidth := hdata, lowOrder := hp.lowOrder, highOrder := hp.highOrder
        lowPrev := hp.lowPrev, highPrev := hp.highPrev, openPrimed := hp.openPrimed
        noLateTrigger := hp.noLateTrigger, posWidth := hp.posWidth }

/-! ### The byte assembler's part -/

/-- At a byte boundary the assembler's part holds of every state but SEEKING_END. -/
theorem byteInv_boundary {st : TState} (cmd : Bool) (h : st ≠ .seekingEnd) : ByteInv st 0 cmd where
  slaveCnt _ := by simp
  idleCnt _ := rfl
  awaitCnt _ := rfl
  endCmd e := absurd e h
  writeCmd _ k := by simp at k

/-- The CMD bit (R87, R107). -/
theorem ByteInv.takeCmd {st : TState} {cmd : Bool} {v : Bool} (h : ByteInv st 0 cmd)
    (hs : (leaveIdle st).shape = .master) (hv : ¬(st = .awaitingTrigger ∧ v = false)) :
    ByteInv (afterCmd (leaveIdle st) v) 1 v := by
  cases st with
  | idle | seekingStart | readingAddress | readingRwId => constructor <;> simp [afterCmd, leaveIdle]
  | writingData => cases v <;> constructor <;> simp [afterCmd, leaveIdle]
  | awaitingTrigger =>
    obtain rfl : v = true := by simpa using hv
    constructor <;> simp [afterCmd, leaveIdle]
  | readingData => cases hs
  | seekingEnd => simpa using h.endCmd rfl

/-- A data bit (R88). -/
theorem ByteInv.takeData {st : TState} {cnt : Fin 10} {cmd : Bool} (h : ByteInv st cnt cmd)
    (hs : (leaveIdle st).shape = .master ∧ 1 ≤ cnt.val ∧ cnt.val ≤ 8 ∨
      (leaveIdle st).shape = .slave ∧ cnt.val ≤ 7) :
    ByteInv (leaveIdle st) (cnt + 1) cmd := by
  have hcnt : (cnt + 1).val = cnt.val + 1 :=
    Fin.val_add_eq_of_add_lt (show cnt.val + 1 < 10 by omega)
  cases st with
  | idle | seekingStart | readingAddress | readingRwId => constructor <;> simp [leaveIdle]
  | writingData =>
    obtain ⟨-, h1, -⟩ | ⟨hsh, -⟩ := hs
    · constructor <;> simp [leaveIdle, h.writeCmd rfl h1]
    · cases hsh
  | awaitingTrigger =>
    obtain ⟨-, h1, -⟩ | ⟨hsh, -⟩ := hs
    · simp [h.awaitCnt rfl] at h1
    · cases hsh
  | readingData =>
    obtain ⟨hsh, -⟩ | ⟨-, h7⟩ := hs
    · cases hsh
    · constructor <;> simp [leaveIdle, hcnt, Nat.lt_succ_of_le h7]
  | seekingEnd => constructor <;> simp [leaveIdle, hcnt, (h.endCmd rfl).2]

/-- The idle event (R92). -/
theorem ByteInv.idleEvent {s : State} (h : ByteInv s.state s.cnt s.cmd) :
    ByteInv (idleEvent s).state (idleEvent s).cnt (idleEvent s).cmd := by
  by_cases e : s.state = .seekingStart
  · simpa [Machine.idleEvent, e] using byteInv_boundary s.cmd (st := .idle) (by decide)
  · simpa [Machine.idleEvent, e] using h

/-! ### The transaction's part -/

/-- A move of `state` that asks no more of the address: to the same state, out of the transaction, or between two states
that stand after the address. -/
def AsksNoMore (a b : TState) : Prop :=
  b = a ∨ b.txnOpen = false ∨ (a.txnOpen = true ∧ a ≠ .readingAddress ∧ b ≠ .readingAddress)

theorem AddrInv.move {a b : TState} {bytes : Nat} {x : Addr} {n : Fin 4} (h : AddrInv a bytes x n)
    (hm : AsksNoMore a b) : AddrInv b bytes x n := by
  rcases hm with rfl | hb | ⟨ha, hna, hnb⟩
  · exact h
  · exact ⟨h.le, fun k => by simp [hb] at k, fun k => by simp [k, TState.txnOpen] at hb, h.width⟩
  · exact ⟨h.le, fun _ _ => h.full ha hna, fun k => absurd k hnb, h.width⟩

/-- Leaving IDLE and the early transition ask no more of the address (R86, R107). -/
theorem asksNoMore_leaveIdle (st : TState) : AsksNoMore st (leaveIdle st) := by
  cases st <;> simp [AsksNoMore, leaveIdle, TState.txnOpen]

theorem asksNoMore_afterCmd (st : TState) (v : Bool) : AsksNoMore st (afterCmd st v) := by
  unfold afterCmd
  split
  · rename_i h
    rcases h.1 with rfl | rfl <;> exact .inr (.inr ⟨rfl, nofun, nofun⟩)
  · exact .inl rfl

/-- A transaction begins with an empty address (R19, R103). -/
theorem addrInv_start {bytes : Nat} (h : 0 < bytes) : AddrInv .readingAddress bytes 0 0 :=
  ⟨Nat.zero_le _, fun _ k => absurd rfl k, fun _ => h, by decide⟩

theorem shiftAddr_toNat (x : Addr) (a : Byte) : (shiftAddr x a).toNat = x.toNat % 2 ^ 16 * 256 + a.toNat := by
  have ha : a.toNat < 2 ^ 8 := a.isLt
  unfold shiftAddr
  rw [BitVec.toNat_append, ← Nat.shiftLeft_add_eq_or_of_lt ha]
  simp [Nat.shiftLeft_eq]

/-- One address byte more (R104): `cnt` does not wrap, for an address has at most three bytes. -/
theorem AddrInv.push {bytes : Nat} {x : Addr} {n : Fin 4} (h : AddrInv .readingAddress bytes x n) (hb : bytes ≤ 3)
    (a : Byte) :
    AddrInv (if n.val + 1 = bytes then .readingRwId else .readingAddress) bytes (shiftAddr x a) (n + 1) := by
  have hn := h.more rfl
  have hval : (n + 1).val = n.val + 1 := Fin.val_add_eq_of_add_lt (show n.val + 1 < 4 by omega)
  have hwidth : (shiftAddr x a).toNat < 256 ^ (n + 1).val := by
    have hx := h.width
    have ha := a.isLt
    have hmod := Nat.mod_le x.toNat (2 ^ 16)
    rw [shiftAddr_toNat, hval, Nat.pow_succ]
    omega
  split
  · exact ⟨by omega, fun _ _ => by omega, nofun, hwidth⟩
  · exact ⟨by omega, fun _ k => absurd rfl k, fun _ => by omega, hwidth⟩

theorem satInc_le (c : Config) (n : Nat) : satInc c n ≤ 2 ^ c.dataCntW - 1 := Nat.min_le_right _ _

/-! ### What the symbols keep -/

/-- A frame symbol run at a byte boundary ends at one, and never in SEEKING_END: only a CMD bit leads there (R107). -/
theorem exec_frame_boundary {i : Instr} {s t : State} (hf : i.isFrame = true) (hc : s.cnt = 0)
    (h : exec i s = .next t) : t.cnt = 0 ∧ t.state ≠ .seekingEnd := by
  cases i with
  | bit0 | bit1 | trigger | badPulse => cases hf
  | skip | wdata =>
    obtain ⟨hs, rfl⟩ := inState_eq_next_iff.1 h
    exact ⟨hc, fun k => nomatch hs.symm.trans k⟩
  | addr a f =>
    obtain ⟨-, rfl⟩ := inState_eq_next_iff.1 h
    refine ⟨hc, ?_⟩
    dsimp only
    split <;> exact nofun
  | ctlInAddr | ctlInRwid | badEnd =>
    obtain ⟨-, rfl⟩ := inState_eq_next_iff.1 h
    exact ⟨rfl, nofun⟩
  | start | rwidWr | rwidRd | endMark | rdata =>
    obtain ⟨-, rfl⟩ := inState_eq_next_iff.1 h
    exact ⟨hc, nofun⟩

/-- What each frame symbol does to the transaction registers keeps their part of the invariants (R103 to R112). -/
theorem txnInv_exec_frame {i : Instr} {s t : State} (hl : s.cfg.legal = true) (hf : i.isFrame = true) (hi : TxnInv s)
    (h : exec i s = .next t) : TxnInv t := by
  obtain ⟨ha, hdir, hdata⟩ := hi
  obtain ⟨-, -, hbytes, -⟩ := legal_iff.1 hl
  cases i with
  | bit0 | bit1 | trigger | badPulse => cases hf
  | start f =>
    obtain ⟨-, rfl⟩ := inState_eq_next_iff.1 h
    exact ⟨addrInv_start (by dsimp only; omega), nofun, Nat.zero_le _⟩
  | skip c d f =>
    obtain ⟨-, rfl⟩ := inState_eq_next_iff.1 h
    exact ⟨ha, hdir, hdata⟩
  | addr a f =>
    obtain ⟨hs, rfl⟩ := inState_eq_next_iff.1 h
    rw [hs] at ha
    exact ⟨ha.push (by omega) a, hdir, hdata⟩
  | ctlInAddr | ctlInRwid | endMark | badEnd =>
    obtain ⟨-, rfl⟩ := inState_eq_next_iff.1 h
    exact ⟨ha.move (.inr (.inl rfl)), hdir, hdata⟩
  | rwidWr | rwidRd =>
    obtain ⟨hs, rfl⟩ := inState_eq_next_iff.1 h
    rw [hs] at ha
    exact ⟨ha.move (.inr (.inr ⟨rfl, nofun, nofun⟩)), fun _ => rfl, hdata⟩
  | wdata d f =>
    obtain ⟨-, rfl⟩ := inState_eq_next_iff.1 h
    exact ⟨ha, hdir, satInc_le _ _⟩
  | rdata d f =>
    obtain ⟨hs, rfl⟩ := inState_eq_next_iff.1 h
    rw [hs] at ha
    exact ⟨ha.move (.inr (.inr ⟨rfl, nofun, nofun⟩)), hdir, satInc_le _ _⟩

/-- At a byte boundary outside SEEKING_END only the transaction's part is left to show. -/
theorem symbolInv_of_boundary {s : State} (hc : s.cnt = 0) (hs : s.state ≠ .seekingEnd) (ht : TxnInv s) :
    SymbolInv s :=
  ⟨hc ▸ byteInv_boundary _ hs, ht⟩

theorem TxnInv.raiseError {s : State} (h : TxnInv s) (k : ErrorKind) (a b : Pos) (v : Byte) :
    TxnInv (raiseError k a b v s) :=
  ⟨h.addr.move (.inr (.inl rfl)), h.dirBit, h.dataWidth⟩

/-- Taking an error resynchronises the decoder (R157). -/
theorem SymbolInv.raiseError {s : State} (h : SymbolInv s) (k : ErrorKind) (a b : Pos) (v : Byte) :
    SymbolInv (raiseError k a b v s) :=
  symbolInv_of_boundary rfl nofun (h.txn.raiseError ..)

theorem SymbolInv.idleEvent {s : State} (h : SymbolInv s) : SymbolInv (idleEvent s) := by
  refine ⟨h.byte.idleEvent, h.txn.addr.move ?_, h.txn.dirBit, h.txn.dataWidth⟩
  rw [idleEvent_state]
  split
  · exact .inr (.inl rfl)
  · exact .inl rfl

/-- The classifier's registers are not the symbols' business. -/
theorem SymbolInv.openPulse {s : State} (h : SymbolInv s) : SymbolInv (openPulse s) :=
  ⟨h.byte, h.txn.addr, h.txn.dirBit, h.txn.dataWidth⟩

theorem SymbolInv.closePulse {s : State} (h : SymbolInv s) : SymbolInv (closePulse s) :=
  ⟨h.byte, h.txn.addr, h.txn.dirBit, h.txn.dataWidth⟩

theorem SymbolInv.endSample {s : State} (h : SymbolInv s) (d : Level) : SymbolInv (endSample d s) :=
  ⟨h.byte, h.txn.addr, h.txn.dirBit, h.txn.dataWidth⟩

theorem SymbolInv.afterIdleClose {s : State} (h : SymbolInv s) (d prev : Level) :
    SymbolInv (afterIdleClose d prev s) := by
  unfold Machine.afterIdleClose
  split
  · exact h.idleEvent.openPulse
  · exact h.idleEvent.closePulse

theorem TxnInv.arriveBit {s : State} (h : TxnInv s) : TxnInv (arriveBit s) :=
  ⟨h.addr.move (asksNoMore_leaveIdle _), h.dirBit, h.dataWidth⟩

/-- The framing bit (R89) ends at a byte boundary, whatever the byte means. -/
theorem symbolInv_takeFraming {v : Bool} {s t : State} (hl : s.cfg.legal = true) (hi : TxnInv s)
    (h : takeFraming v s = .next t) : SymbolInv t := by
  obtain ⟨i, hf, -, he⟩ := takeFraming_eq_next h
  obtain ⟨hc, hs⟩ := exec_frame_boundary hf rfl he
  refine symbolInv_of_boundary hc hs (txnInv_exec_frame ?_ hf ?_ he)
  · exact hl
  · exact ⟨hi.addr, hi.dirBit, hi.dataWidth⟩

/-- A bit (R86 to R89). -/
theorem symbolInv_exec_bit {v : Bool} {s t : State} (hl : s.cfg.legal = true) (hi : SymbolInv s)
    (h : exec (bitInstr v) s = .next t) : SymbolInv t := by
  obtain ⟨hbit, hv⟩ := exec_bit_eq_next h
  have ht := hi.txn.arriveBit
  rcases assembleBit_eq_next hbit with ⟨hs, hc, rfl⟩ | ⟨hs, rfl⟩ | ⟨-, hf⟩
  · have hb := hi.byte
    rw [show s.cnt = 0 from Fin.ext hc] at hb
    exact ⟨hb.takeCmd hs hv, ht.addr.move (asksNoMore_afterCmd _ _), ht.dirBit, ht.dataWidth⟩
  · exact ⟨hi.byte.takeData hs, ht.addr, ht.dirBit, ht.dataWidth⟩
  · exact symbolInv_takeFraming (s := arriveBit s) hl ht hf

/-- A pulse symbol keeps the symbols' part of the invariants. -/
theorem symbolInv_exec_pulse {i : Instr} {s t : State} (hl : s.cfg.legal = true) (hf : i.isFrame = false)
    (hi : SymbolInv s) (h : exec i s = .next t) : SymbolInv t := by
  cases i with
  | bit0 => exact symbolInv_exec_bit (v := false) hl hi h
  | bit1 => exact symbolInv_exec_bit (v := true) hl hi h
  | trigger =>
    obtain ⟨hs, rfl⟩ := exec_trigger_eq_next_iff.1 h
    obtain ⟨hb, ha, hdir, hdata⟩ := hi
    rw [hs] at ha
    exact symbolInv_of_boundary (hb.awaitCnt hs) nofun ⟨ha.move (.inr (.inr ⟨rfl, nofun, nofun⟩)), hdir, hdata⟩
  | badPulse =>
    rw [exec_badPulse] at h
    cases h
    exact symbolInv_of_boundary rfl nofun ⟨hi.txn.addr.move (.inr (.inl rfl)), hi.txn.dirBit, hi.txn.dataWidth⟩
  | start | skip | addr | ctlInAddr | rwidWr | rwidRd | ctlInRwid | wdata | endMark | badEnd | rdata => cases hf

theorem classifyIdle_isFrame (l : Nat) : (classifyIdle l).isFrame = false := by
  rcases classifyIdle_cases l with ⟨e, -⟩ | ⟨e, -⟩ | e <;> rw [e] <;> rfl

theorem classifyStrict_isFrame (l h : Nat) : (classifyStrict l h).isFrame = false := by
  rcases classifyStrict_cases l h with ⟨e, -⟩ | ⟨e, -⟩ | e <;> rw [e] <;> rfl

/-! ### What the ticks keep -/

/-- Every phase rule keeps the symbols' part of the invariants (R73 to R75). -/
theorem symbolInv_phaseRule {d : Level} {s u : State} (hl : s.cfg.legal = true) (hi : SymbolInv s)
    (h : phaseRule d s = .next u) : SymbolInv u := by
  unfold phaseRule at h
  split at h
  · rcases waitFallRule_eq_next h with ⟨-, rfl⟩ | ⟨-, -, rfl⟩ | ⟨-, -, rfl⟩
    · exact hi.openPulse
    · exact hi.raiseError ..
    · exact hi
  · rcases inLowRule_eq_next h with ⟨-, rfl⟩ | ⟨-, htrig, rfl⟩ | ⟨-, -, rfl⟩
    · exact hi
    · have hs : s.state = .awaitingTrigger := (by simpa [isTrigger] using htrig : _ ∧ _).1
      have k := symbolInv_exec_pulse hl rfl hi (exec_trigger_eq_next_iff.2 ⟨hs, rfl⟩)
      exact ⟨k.byte, k.txn.addr, k.txn.dirBit, k.txn.dataWidth⟩
    · exact ⟨hi.byte, hi.txn.addr, hi.txn.dirBit, hi.txn.dataWidth⟩
  · rcases inHighRule_eq_next h with ⟨-, w, hw, rfl⟩ | ⟨-, -, w, hw, rfl⟩ | ⟨-, -, rfl⟩
    · exact (symbolInv_exec_pulse hl (classifyIdle_isFrame _) hi hw).afterIdleClose ..
    · exact (symbolInv_exec_pulse hl (classifyStrict_isFrame _ _) hi hw).openPulse
    · exact hi

theorem fallEdge_iff {prev d : Level} : fallEdge prev d = true ↔ prev = .high ∧ d = .low := by
  simp [fallEdge]

theorem riseEdge_iff {prev d : Level} : riseEdge prev d = true ↔ prev = .low ∧ d = .high := by
  simp [riseEdge]

/-- A LOW line that does not rise stays LOW. -/
theorem eq_prev_of_no_rise {prev d : Level} (hprev : prev = .low) (h : riseEdge prev d = false) : d = prev := by
  cases d with
  | low => exact hprev.symm
  | high => simp [riseEdge, hprev] at h

/-- A HIGH line that does not fall stays HIGH. -/
theorem eq_prev_of_no_fall {prev d : Level} (hprev : prev = .high) (h : fallEdge prev d = false) : d = prev := by
  cases d with
  | low => simp [fallEdge, hprev] at h
  | high => exact hprev.symm

/-- With no pulse open only the capture's length is left to show. -/
theorem pulseInv_closed {s : State} (hw : s.phase = .waitFall) (hp : s.pos < 2 ^ s.cfg.posW) : PulseInv s := by
  constructor <;> simp [hw, hp]

/-- A falling edge opens a LOW phase at the sample it is seen on (R73, R75). -/
theorem pulseInv_opened {s : State} {d prev : Level} (hfall : fallEdge prev d = true) (hprimed : s.primed = true)
    (hp : s.pos + 1 < 2 ^ s.cfg.posW) : PulseInv (endSample d (openPulse s)) := by
  obtain ⟨-, rfl⟩ := fallEdge_iff.1 hfall
  constructor <;> simp [hprimed, hp]

/-- A sample that keeps the level prolongs the open phase. -/
theorem PulseInv.endSample {s : State} {d : Level} (hi : PulseInv s) (hd : d = s.prev)
    (hp : s.pos + 1 < 2 ^ s.cfg.posW) : PulseInv (endSample d s) where
  lowOrder k := Nat.le_succ_of_le (hi.lowOrder k)
  highOrder k := (hi.highOrder k).imp_right Nat.le_succ_of_le
  lowPrev k := hd.trans (hi.lowPrev k)
  highPrev k := hd.trans (hi.highPrev k)
  openPrimed := hi.openPrimed
  noLateTrigger := hi.noLateTrigger
  posWidth := hp

section PhaseRules

variable {d : Level} {s u : State}

theorem pulseInv_waitFallRule (hphase : s.phase = .waitFall) (hprimed : s.primed = true)
    (hp : s.pos + 1 < 2 ^ s.cfg.posW) (h : waitFallRule d s = .next u) : PulseInv (endSample d u) := by
  rcases waitFallRule_eq_next h with ⟨hfall, rfl⟩ | ⟨-, -, rfl⟩ | ⟨-, -, rfl⟩
  · exact pulseInv_opened hfall hprimed hp
  · exact pulseInv_closed hphase hp
  · exact pulseInv_closed hphase hp

/-- In IN_LOW the line stays LOW or rises (I-9); a LOW of 1 unit in AWAITING_TRIGGER is a trigger and opens no HIGH
phase (R74). -/
theorem pulseInv_inLowRule (hi : PulseInv s) (hphase : s.phase = .inLow) (hprimed : s.primed = true)
    (hp : s.pos + 1 < 2 ^ s.cfg.posW) (h : inLowRule d s = .next u) : PulseInv (endSample d u) := by
  rcases inLowRule_eq_next h with ⟨hrise, rfl⟩ | ⟨-, -, rfl⟩ | ⟨hrise, htrig, rfl⟩
  · exact hi.endSample (eq_prev_of_no_rise (hi.lowPrev hphase) hrise) hp
  · exact pulseInv_closed rfl hp
  · obtain ⟨-, rfl⟩ := riseEdge_iff.1 hrise
    exact
      { lowOrder := nofun, highOrder := fun _ => ⟨hi.lowOrder hphase, Nat.le_succ _⟩
        lowPrev := nofun, highPrev := fun _ => rfl, openPrimed := fun _ => hprimed
        noLateTrigger := by simpa [isTrigger, State.lowUnits] using htrig
        posWidth := hp }

/-- In IN_HIGH the line stays HIGH (I-9) or the pulse closes. -/
theorem pulseInv_inHighRule (hi : PulseInv s) (hphase : s.phase = .inHigh) (hprimed : s.primed = true)
    (hp : s.pos + 1 < 2 ^ s.cfg.posW) (h : inHighRule d s = .next u) : PulseInv (endSample d u) := by
  rcases inHighRule_eq_next h with ⟨-, w, hw, rfl⟩ | ⟨-, hfall, w, hw, rfl⟩ | ⟨-, hfall, rfl⟩
  · have k := samePulse_exec hw
    rw [← k.pos, ← k.cfg] at hp
    unfold afterIdleClose
    split
    · exact pulseInv_opened ‹_› (k.primed.trans hprimed) hp
    · exact pulseInv_closed rfl hp
  · have k := samePulse_exec hw
    rw [← k.pos, ← k.cfg] at hp
    exact pulseInv_opened hfall (k.primed.trans hprimed) hp
  · exact hi.endSample (eq_prev_of_no_fall (hi.highPrev hphase) hfall) hp

theorem pulseInv_phaseRule (hi : PulseInv s) (hprimed : s.primed = true) (hp : s.pos + 1 < 2 ^ s.cfg.posW)
    (h : phaseRule d s = .next u) : PulseInv (endSample d u) := by
  unfold phaseRule at h
  split at h
  · exact pulseInv_waitFallRule ‹_› hprimed hp h
  · exact pulseInv_inLowRule hi ‹_› hprimed hp h
  · exact pulseInv_inHighRule hi ‹_› hprimed hp h

end PhaseRules

/-- A Sample tick keeps the invariants (R143). -/
theorem Inv.sampleTick {d : Level} {s u : State} (hi : Inv s) (h : sampleTick d s = .next u) : Inv u := by
  obtain ⟨hsym, hpulse⟩ := inv_iff.1 hi
  obtain ⟨hl, hp, ⟨hprimed, rfl⟩ | ⟨hprimed, w, hw, rfl⟩⟩ := sampleTick_eq_next h
  · have hphase : s.phase = .waitFall := by
      by_contra hopen
      simp [hpulse.openPrimed hopen] at hprimed
    exact inv_iff.2 ⟨⟨hsym.byte, hsym.txn.addr, hsym.txn.dirBit, hsym.txn.dataWidth⟩, pulseInv_closed hphase hp⟩
  · exact inv_iff.2 ⟨(symbolInv_phaseRule hl hsym hw).endSample d, pulseInv_phaseRule hpulse hprimed hp hw⟩

/-- The end-of-stream test leaves no transaction open (R101, R152). -/
theorem prematureEnd_not_seekingEnd (mid : Bool) (s : State) : (prematureEnd mid s).state ≠ .seekingEnd := by
  unfold prematureEnd
  split
  · exact nofun
  · rename_i hopen
    intro hs
    simp [hs, TState.txnOpen] at hopen

theorem TxnInv.prematureEnd {s : State} (h : TxnInv s) (mid : Bool) : TxnInv (prematureEnd mid s) := by
  unfold Machine.prematureEnd
  split
  · exact h.raiseError ..
  · exact h

theorem TxnInv.finishStream {s : State} (h : TxnInv s) : TxnInv (finishStream s) := ⟨h.addr, h.dirBit, h.dataWidth⟩

theorem symbolInv_eosClose {s u : State} (hl : s.cfg.legal = true) (hi : SymbolInv s) (h : eosClose s = .next u) :
    SymbolInv u := by
  rcases eosClose_eq_next h with ⟨v, hv, -⟩ | ⟨rfl, -⟩
  · exact symbolInv_exec_bit hl hi hv
  · exact hi

/-- An Eos tick keeps the invariants (R144). -/
theorem Inv.eosTick {s u : State} (hi : Inv s) (h : eosTick s = .next u) : Inv u := by
  obtain ⟨hpos, -, hcfg, -, -⟩ := eosTick_frame h
  obtain ⟨hl, w, hw, rfl⟩ := eosTick_eq_next h
  have ht := ((symbolInv_eosClose hl (inv_iff.1 hi).1 hw).txn.prematureEnd (midBit s)).finishStream
  refine inv_iff.2 ⟨symbolInv_of_boundary rfl (prematureEnd_not_seekingEnd _ _) ht, pulseInv_closed rfl ?_⟩
  rw [hpos, hcfg]
  exact hi.posWidth

/-- A Reset tick establishes the invariants, whatever was before (R175, R176). -/
theorem inv_resetTick (s : State) : Inv (resetTick s) := by
  have haddr : AddrInv .idle s.cfg.addressBytes 0 0 := ⟨Nat.zero_le _, nofun, nofun, by decide⟩
  exact inv_iff.2 ⟨symbolInv_of_boundary rfl nofun ⟨haddr, nofun, Nat.zero_le _⟩,
    pulseInv_closed rfl (Nat.two_pow_pos _)⟩

/-- Taking the pins touches no register. -/
theorem Inv.beginTick {s : State} (h : Inv s) : Inv (beginTick s) := { h with }

theorem Inv.recordTrace {s : State} (h : Inv s) : Inv (recordTrace s) := { h with }

theorem Inv.tickSymbol {sym : InSymbol} {s u : State} (hi : Inv s) (h : tickSymbol sym s = .next u) : Inv u := by
  cases sym with
  | reset =>
    cases h
    exact inv_resetTick s
  | ignored | hold =>
    cases h
    exact hi
  | eos => exact hi.eosTick h
  | sample d => exact hi.sampleTick h

/-! ### The other two invariants at reset -/

/-- With no record and no open part of a transaction there is no span to order (R134). -/
theorem spanInv_resetTick (s : State) : SpanInv (resetTick s) where
  ordered := .nil
  bounded := nofun
  beforePulse k := absurd rfl k
  beforeByte k := absurd rfl k
  beforeAddr := nofun
  beforeWait := nofun
  beforeTxn := nofun

theorem txnBalanced_resetTick (s : State) : TxnBalanced (resetTick s) := rfl

end Sys2Proof.Machine
end

section
/-! SUPPORT. The statements about the state, the input symbols and the register invariants, settled. -/

namespace Sys2Proof.Machine

/-- Settles O52: the invariants hold through each of the three parts of a tick. -/
theorem stepKeepsRegisterInvariants : Obligations.StepKeepsRegisterInvariants := by
  intro s t hi h
  obtain ⟨u, hu, rfl⟩ := step_eq_next h
  exact (hi.beginTick.tickSymbol hu).recordTrace

/-- Settles O8, by the input symbol. -/
theorem tickMovesPositionAndPins : Obligations.TickMovesPositionAndPins := by
  intro s t h
  obtain ⟨u, hu, rfl⟩ := step_eq_next h
  cases hsym : s.nextSymbol with
  | reset =>
    rw [hsym] at hu
    cases hu
    exact ⟨rfl, rfl, rfl, fun k => absurd rfl k⟩
  | ignored | hold =>
    rw [hsym] at hu
    cases hu
    exact ⟨rfl, rfl, rfl, fun _ => rfl⟩
  | eos =>
    rw [hsym] at hu
    obtain ⟨hpos, -, hcfg, hinput, htrace⟩ := eosTick_frame hu
    exact ⟨hpos, hcfg, hinput, fun _ => congrArg (· ++ u.out) htrace⟩
  | sample d =>
    rw [hsym] at hu
    obtain ⟨hpos, -, hcfg, hinput, htrace⟩ := sampleTick_frame hu
    exact ⟨hpos, hcfg, hinput, fun _ => congrArg (· ++ u.out) htrace⟩

/-- Settles O2, by the states. -/
theorem statusOutputsCopyRegisters : Obligations.StatusOutputsCopyRegisters := by
  constructor
  · intro st
    cases st <;> simp [TState.shape, TState.txnOpen]
  · intro s
    have hcode : s.state.code.toNat ≤ 7 := by cases s.state <;> decide
    have hcnt : s.status.cnt.toNat = s.cnt.val := by
      have := s.cnt.isLt
      simp only [State.status, BitVec.toNat_ofNat]
      omega
    exact ⟨rfl, hcode, rfl, rfl, rfl, hcnt⟩

/-- Settles O4: while `done = 1` the symbol is Reset or ignored, and of the others only Eos writes `done`. -/
theorem doneIgnoresAllButReset : Obligations.DoneIgnoresAllButReset := by
  constructor
  · intro s hd hr
    exact ⟨_, step_ignored (nextSymbol_eq_ignored hd hr), rfl⟩
  · intro s t h
    obtain ⟨u, hu, rfl⟩ := step_eq_next h
    cases hsym : s.nextSymbol with
    | reset =>
      rw [hsym] at hu
      cases hu
      simp [State.reset]
    | ignored | hold =>
      rw [hsym] at hu
      cases hu
      simp
    | eos =>
      rw [hsym] at hu
      obtain ⟨-, hdone, -⟩ := eosTick_frame hu
      simp [hdone]
    | sample d =>
      rw [hsym] at hu
      obtain ⟨-, hdone, -⟩ := sampleTick_frame hu
      simp [hdone]

/-- Settles O9. -/
theorem outsideTheContractIsRefused : Obligations.OutsideTheContractIsRefused := by
  constructor
  · rintro s hl (hsym | ⟨d, hsym⟩)
    · exact step_eq_refused (hsym ▸ eosTick_illegal hl)
    · exact step_eq_refused (hsym ▸ sampleTick_illegal d hl)
  · intro s d hl hsym hp
    exact step_eq_refused (hsym ▸ sampleTick_tooLong d hl hp)

/-- Settles O51: the reset state is what a Reset tick makes of it. -/
theorem resetMeetsInvariants : Obligations.ResetMeetsInvariants :=
  ⟨inv_resetTick State.reset, spanInv_resetTick State.reset, txnBalanced_resetTick State.reset⟩

/-- Settles O60. -/
theorem startClearsTheAddressRegisters : Obligations.StartClearsTheAddressRegisters := by
  intro s f hs
  exact ⟨_, inState_eq_next_iff.2 ⟨hs, rfl⟩, rfl, rfl, rfl⟩

end Sys2Proof.Machine
end

section
/-! SUPPORT. The bits of a frame in order of arrival: what each bit of it does (R86 to R89), and by induction over the
data bits that a run of them, closed by the framing bit, is the frame symbol of the assembled word. -/

namespace Sys2Proof.Machine

/-! ### The state while a frame is under way -/

/-- The count at which a byte's data bits begin (R16): a MASTER byte has its CMD bit first. The eight data bits follow,
then the framing bit. -/
def firstData : Shape → Nat
  | .master => 1
  | .slave => 0

@[simp] theorem shape_leaveIdle (st : TState) : (leaveIdle st).shape = st.shape := by cases st <;> rfl

/-- The early transition stays among the states with MASTER frames (R26, R107). -/
@[simp] theorem shape_afterCmd (st : TState) (v : Bool) : (afterCmd st v).shape = st.shape := by
  unfold afterCmd
  split
  · rename_i h
    rcases h.1 with rfl | rfl <;> rfl
  · rfl

theorem leaveIdle_ne_idle (st : TState) : leaveIdle st ≠ .idle := by cases st <;> nofun

theorem leaveIdle_ne_awaitingTrigger {st : TState} (h : st ≠ .awaitingTrigger) : leaveIdle st ≠ .awaitingTrigger := by
  unfold leaveIdle
  split
  · exact nofun
  · exact h

theorem leaveIdle_eq_self {st : TState} (h : st ≠ .idle) : leaveIdle st = st := if_neg h

theorem cnt_succ {n : Fin 10} (h : n.val ≤ 8) : (n + 1).val = n.val + 1 :=
  Fin.val_add_eq_of_add_lt (show n.val + 1 < 10 by omega)

theorem firstData_le_one (sh : Shape) : firstData sh ≤ 1 := by cases sh <;> decide

/-- A byte may go on: IDLE is left, no trigger is awaited, and the first bit's start is noted (R86, R110). -/
structure ByteUnderWay (s : State) : Prop where
  leftIdle : s.state ≠ .idle
  noWait : s.state ≠ .awaitingTrigger
  startNoted : s.cnt = 0 → s.byteStart = s.fallPos

/-- The first step of a bit is what brings a byte under way. -/
theorem byteUnderWay_arriveBit {s : State} (h : s.state ≠ .awaitingTrigger) : ByteUnderWay (arriveBit s) where
  leftIdle := leaveIdle_ne_idle _
  noWait := leaveIdle_ne_awaitingTrigger h
  startNoted h := if_pos h

/-- After the first bit that step does nothing more. -/
theorem ByteUnderWay.arriveBit {s : State} (h : ByteUnderWay s) : arriveBit s = s := by
  have hstart : (if s.cnt = 0 then s.fallPos else s.byteStart) = s.byteStart := by
    split
    · exact (h.startNoted ‹_›).symm
    · rfl
  simp only [Machine.arriveBit, leaveIdle_eq_self h.leftIdle, hstart]

/-- No MASTER frame completes in IDLE or in AWAITING_TRIGGER (R56, R110). -/
theorem state_ne_of_decode_master {st : TState} {w : BitVec 10} {i : Instr} (h : decode st (.master w) = .ok i) :
    st ≠ .idle ∧ st ≠ .awaitingTrigger := by
  constructor <;> rintro rfl <;> cases h

/-! ### What a bit of each kind does -/

/-- A bit goes through the assembler, but for bit 0 in AWAITING_TRIGGER (R86, R110). -/
theorem exec_bit {v : Bool} {s : State} (hv : ¬(s.state = .awaitingTrigger ∧ v = false)) :
    exec (bitInstr v) s = assembleBit v (arriveBit s) := by
  cases v with
  | true => rfl
  | false => exact if_neg fun h => hv ⟨h, rfl⟩

theorem ByteUnderWay.exec_bit {s : State} (h : ByteUnderWay s) (v : Bool) :
    exec (bitInstr v) s = assembleBit v s := by
  rw [Machine.exec_bit fun hw => h.noWait hw.1, h.arriveBit]

/-- A data bit keeps the byte under way: the count is past 0 and does not wrap. -/
theorem ByteUnderWay.takeData {s : State} (h : ByteUnderWay s) (hc : s.cnt.val ≤ 8) (v : Bool) :
    ByteUnderWay (takeData v s) where
  leftIdle := h.leftIdle
  noWait := h.noWait
  startNoted hz := by
    have hv : (s.cnt + 1).val = 0 := congrArg Fin.val hz
    rw [cnt_succ hc] at hv
    cases hv

/-- A MASTER byte's first bit is its CMD bit (R87). -/
theorem assembleBit_cmd {s : State} (v : Bool) (hs : s.state.shape = .master) (hc : s.cnt = 0) :
    assembleBit v s = .next (takeCmd v s) := by
  simp [assembleBit, hs, hc]

/-- The next eight bits are data (R88). -/
theorem assembleBit_data {s : State} (v : Bool) (hlo : firstData s.state.shape ≤ s.cnt.val)
    (hhi : s.cnt.val < firstData s.state.shape + 8) : assembleBit v s = .next (takeData v s) := by
  unfold assembleBit
  cases hs : s.state.shape with
  | master =>
    rw [hs] at hlo hhi
    have hpos : s.cnt.val ≠ 0 := Nat.ne_of_gt hlo
    have hle : s.cnt.val ≤ 8 := Nat.le_of_lt_succ hhi
    simp [hpos, hle]
  | slave =>
    rw [hs] at hhi
    have hle : s.cnt.val ≤ 7 := Nat.le_of_lt_succ hhi
    simp [hle]

/-- The bit after the data is the framing bit (R89). -/
theorem assembleBit_framing {s : State} (v : Bool) (hc : s.cnt.val = firstData s.state.shape + 8) :
    assembleBit v s = takeFraming v s := by
  unfold assembleBit
  cases hs : s.state.shape <;> rw [hs] at hc <;> simp [hc, firstData]

/-- The framing bit runs the frame that it completes (R89). -/
theorem takeFraming_eq_exec {v : Bool} {s : State} {i : Instr} (h : decode s.state (s.frameWire v) = .ok i) :
    takeFraming v s = exec i { s with out := s.out ++ [⟨.bitsData v, s.fallPos, s.pos⟩], cnt := 0 } := by
  simp only [takeFraming, deliverFrame, h]
  exact runFrame_eq_exec (isFrame_of_frameWire h) _

/-- The frame that the bit `v` completes once `sh` holds `d`. -/
def frameWith (s : State) (d : Byte) (v : Bool) : Wire := { s with sh := d }.frameWire v

theorem frameWith_master {s : State} (d : Byte) (v : Bool) (h : s.state.shape = .master) :
    frameWith s d v = .master (masterWord s.cmd d v) := by
  simp only [frameWith, State.frameWire, h]

theorem frameWith_slave {s : State} (d : Byte) (v : Bool) (h : s.state.shape = .slave) :
    frameWith s d v = .slave (slaveWord d v) := by
  simp only [frameWith, State.frameWire, h]

/-! ### The shift register over a byte -/

/-- With MSB_FIRST = 1 every bit held moves up by one and the new bit comes in below (R88). -/
theorem getLsbD_shiftIn (x : Byte) (v : Bool) (k : Nat) :
    (shiftIn true x v).getLsbD k = if k = 0 then v else decide (k < 8) && x.getLsbD (k - 1) := by
  unfold shiftIn
  rw [if_pos rfl, BitVec.getLsbD_append]
  cases k with
  | zero => cases v <;> rfl
  | succ k =>
    have hk : k + 1 < 8 ↔ k < 7 := Nat.succ_lt_succ_iff
    simp [hk]

/-- Eight bits replace the whole of `sh`, the first becoming the most significant (R49). -/
theorem foldl_shiftIn_bitsMsbFirst (x d : Byte) : (bitsMsbFirst d).foldl (shiftIn true) x = d := by
  refine BitVec.eq_of_getLsbD_eq fun k hk => ?_
  simp only [bitsMsbFirst, List.foldl_cons, List.foldl_nil, getLsbD_shiftIn]
  interval_cases k <;> rfl

/-! ### A whole byte -/

theorem runSymbols_singleton (i : Instr) (s : State) : runSymbols [i] s = exec i s := by
  unfold runSymbols
  cases exec i s <;> rfl

theorem runSymbols_cons_next {i : Instr} {s t : State} (h : exec i s = .next t) (rest : List Instr) :
    runSymbols (i :: rest) s = runSymbols rest t := by
  rw [runSymbols, h, andThen_next]

/-- The data bits still missing and then the framing bit run the frame of the assembled word (R88, R89), by induction
over the data bits. -/
theorem runSymbols_data_framing {vs : List Bool} {f : Bool} {s : State} {i : Instr} (h : ByteUnderWay s)
    (hlo : firstData s.state.shape ≤ s.cnt.val) (hlen : s.cnt.val + vs.length = firstData s.state.shape + 8)
    (hdec : decode s.state (frameWith s (vs.foldl (shiftIn s.cfg.msbFirst) s.sh) f) = .ok i) :
    runSymbols ((vs ++ [f]).map bitInstr) s = exec i { s with
      sh := vs.foldl (shiftIn s.cfg.msbFirst) s.sh
      out := s.out ++ (vs ++ [f]).map fun v => ⟨.bitsData v, s.fallPos, s.pos⟩
      cnt := 0 } := by
  induction vs generalizing s with
  | nil =>
    calc runSymbols [bitInstr f] s
      _ = exec (bitInstr f) s := runSymbols_singleton _ _
      _ = takeFraming f s := (h.exec_bit f).trans (assembleBit_framing f hlen)
      _ = _ := takeFraming_eq_exec hdec
  | cons v vs ih =>
    have hcnt := firstData_le_one s.state.shape
    rw [List.length_cons] at hlen
    have hsucc : (takeData v s).cnt.val = s.cnt.val + 1 := cnt_succ (by omega)
    have hbit : exec (bitInstr v) s = .next (takeData v s) :=
      (h.exec_bit v).trans (assembleBit_data v hlo (by omega))
    have hlo' : firstData s.state.shape ≤ (takeData v s).cnt.val := by omega
    have hlen' : (takeData v s).cnt.val + vs.length = firstData s.state.shape + 8 := by omega
    calc runSymbols (bitInstr v :: (vs ++ [f]).map bitInstr) s
      _ = runSymbols ((vs ++ [f]).map bitInstr) (takeData v s) := runSymbols_cons_next hbit _
      _ = _ := ih (h.takeData (by omega) v) hlo' hlen' hdec
      _ = _ := by simp [takeData]

/-- The eight bits of `d` and a framing bit, once the byte is under way and only its data bits are to come (R49, R50). -/
theorem runSymbols_slaveBits_of_underWay {d : Byte} {f : Bool} {s : State} {i : Instr} (h : ByteUnderWay s)
    (hmsb : s.cfg.msbFirst = true) (hc : s.cnt.val = firstData s.state.shape)
    (hdec : decode s.state (frameWith s d f) = .ok i) :
    runSymbols (slaveBits d f) s = exec i { s with
      sh := d
      out := s.out ++ (bitsMsbFirst d ++ [f]).map fun v => ⟨.bitsData v, s.fallPos, s.pos⟩
      cnt := 0 } := by
  have hd : (bitsMsbFirst d).foldl (shiftIn s.cfg.msbFirst) s.sh = d := by rw [hmsb, foldl_shiftIn_bitsMsbFirst]
  have hrun := runSymbols_data_framing (vs := bitsMsbFirst d) (f := f) (i := i) h hc.ge
    (by rw [hc]; rfl) (by rw [hd]; exact hdec)
  rw [hd] at hrun
  exact hrun

/-- The CMD bit (R86, R87, R107). -/
theorem exec_cmdBit {s : State} {v : Bool} (hs : s.state.shape = .master) (hc : s.cnt = 0)
    (hv : ¬(s.state = .awaitingTrigger ∧ v = false)) :
    exec (bitInstr v) s = .next (takeCmd v (arriveBit s)) :=
  (exec_bit hv).trans (assembleBit_cmd v (by simpa using hs) hc)

/-- A MASTER frame: its CMD bit brings the byte under way. -/
theorem runSymbols_masterBits {s : State} {c f : Bool} {d : Byte} {i : Instr} (hmsb : s.cfg.msbFirst = true)
    (hc : s.cnt = 0) (hs : s.state.shape = .master)
    (hdec : decode (afterCmd (leaveIdle s.state) c) (.master (masterWord c d f)) = .ok i) :
    runSymbols (masterBits c d f) s = exec i { s with
      state := afterCmd (leaveIdle s.state) c
      cmd := c
      sh := d
      byteStart := s.fallPos
      out := s.out ++ ⟨.bitsCmd c, s.fallPos, s.pos⟩ ::
        (bitsMsbFirst d ++ [f]).map fun v => ⟨.bitsData v, s.fallPos, s.pos⟩ } := by
  obtain ⟨hidle, hwait⟩ := state_ne_of_decode_master hdec
  have hv : ¬(s.state = .awaitingTrigger ∧ c = false) := by
    rintro ⟨hst, rfl⟩
    rw [hst] at hwait
    exact hwait rfl
  have hshape : (takeCmd c (arriveBit s)).state.shape = .master := by simpa using hs
  have hway : ByteUnderWay (takeCmd c (arriveBit s)) := ⟨hidle, hwait, nofun⟩
  have hcount : (takeCmd c (arriveBit s)).cnt.val = firstData (takeCmd c (arriveBit s)).state.shape := by
    rw [hshape]
    rfl
  have hword : decode (takeCmd c (arriveBit s)).state (frameWith (takeCmd c (arriveBit s)) d f) = .ok i := by
    rw [frameWith_master d f hshape]
    exact hdec
  calc runSymbols (bitInstr c :: slaveBits d f) s
    _ = runSymbols (slaveBits d f) (takeCmd c (arriveBit s)) := runSymbols_cons_next (exec_cmdBit hs hc hv) _
    _ = _ := runSymbols_slaveBits_of_underWay hway hmsb hcount hword
    _ = _ := by simp [takeCmd, arriveBit, hc]

/-- A SLAVE frame: its first bit is data and brings the byte under way, so that step may be taken before the bits. -/
theorem runSymbols_slaveBits {s : State} {f : Bool} {d : Byte} {i : Instr} (hmsb : s.cfg.msbFirst = true)
    (hc : s.cnt = 0) (hs : s.state = .readingData) (hdec : decode .readingData (.slave (slaveWord d f)) = .ok i) :
    runSymbols (slaveBits d f) s = exec i { s with
      sh := d
      byteStart := s.fallPos
      out := s.out ++ (bitsMsbFirst d ++ [f]).map fun v => ⟨.bitsData v, s.fallPos, s.pos⟩ } := by
  have hwait : s.state ≠ .awaitingTrigger := by rw [hs]; decide
  have hway : ByteUnderWay (arriveBit s) := byteUnderWay_arriveBit hwait
  have hstate : (arriveBit s).state = .readingData := by rw [arriveBit_state, hs]; rfl
  have hshape : (arriveBit s).state.shape = .slave := by rw [hstate]; rfl
  have hcount : (arriveBit s).cnt.val = firstData (arriveBit s).state.shape := by
    rw [hshape, arriveBit_cnt, hc]
    rfl
  have hword : decode (arriveBit s).state (frameWith (arriveBit s) d f) = .ok i := by
    rw [frameWith_slave d f hshape, hstate, hdec]
  have hfirst : exec (bitInstr (d.getLsbD 7)) s = exec (bitInstr (d.getLsbD 7)) (arriveBit s) := by
    rw [exec_bit fun h => hwait h.1, hway.exec_bit]
  calc runSymbols (slaveBits d f) s
    _ = runSymbols (slaveBits d f) (arriveBit s) := congrArg (andThen · _) hfirst
    _ = _ := runSymbols_slaveBits_of_underWay hway hmsb hcount hword
    _ = _ := by simp [arriveBit, hc, hs, leaveIdle]

end Sys2Proof.Machine
end

section
/-! SUPPORT. The statement about the bits of a whole frame, settled. -/

namespace Sys2Proof.Machine

/-- Settles O26: the two shapes of a frame. -/
theorem frameBitsRunTheFrame : Obligations.FrameBitsRunTheFrame := by
  constructor
  · rintro s c d f st i hmsb hc hs rfl hdec
    exact runSymbols_masterBits hmsb hc hs hdec
  · intro s d f i hmsb hc hs hdec
    exact runSymbols_slaveBits hmsb hc hs hdec

end Sys2Proof.Machine
end

section
/-! SUPPORT. The wire formats (R46 to R61): a frame word is its fields and nothing more, a pulse pattern is its unit
counts, and a row of the table tests one field at a time. -/

namespace Sys2Proof

/-! ### A frame word and its fields -/

theorem masterWord_eq_concat (c : Bool) (d : Byte) (f : Bool) : masterWord c d f = (d.cons c).concat f := rfl

theorem slaveWord_eq_concat (d : Byte) (f : Bool) : slaveWord d f = d.concat f := rfl

@[simp] theorem masterCmd_masterWord (c : Bool) (d : Byte) (f : Bool) : masterCmd (masterWord c d f) = c := by
  rw [masterCmd, masterWord_eq_concat, BitVec.getLsbD_concat, BitVec.getLsbD_cons]
  rfl

@[simp] theorem masterValue_masterWord (c : Bool) (d : Byte) (f : Bool) : masterValue (masterWord c d f) = d := by
  refine BitVec.eq_of_getLsbD_eq fun k hk => ?_
  rw [masterValue, BitVec.getLsbD_extractLsb', masterWord_eq_concat, BitVec.getLsbD_concat, BitVec.getLsbD_cons]
  simp [hk, hk.ne]

@[simp] theorem masterFraming_masterWord (c : Bool) (d : Byte) (f : Bool) : masterFraming (masterWord c d f) = f := by
  rw [masterFraming, masterWord_eq_concat, BitVec.getLsbD_concat, if_pos rfl]

/-- R49: the three fields cover the word. -/
theorem masterWord_fields (w : BitVec 10) : masterWord (masterCmd w) (masterValue w) (masterFraming w) = w := by
  refine BitVec.eq_of_getLsbD_eq fun k hk => ?_
  rw [masterWord_eq_concat, BitVec.getLsbD_concat, BitVec.getLsbD_cons, masterValue, BitVec.getLsbD_extractLsb']
  interval_cases k <;> rfl

theorem exists_eq_masterWord (w : BitVec 10) : ∃ c d f, w = masterWord c d f :=
  ⟨_, _, _, (masterWord_fields w).symm⟩

theorem masterWord_inj {c c' : Bool} {d d' : Byte} {f f' : Bool} :
    masterWord c d f = masterWord c' d' f' ↔ c = c' ∧ d = d' ∧ f = f' := by
  constructor
  · intro h
    have hc := congrArg masterCmd h
    have hd := congrArg masterValue h
    have hf := congrArg masterFraming h
    simp only [masterCmd_masterWord, masterValue_masterWord, masterFraming_masterWord] at hc hd hf
    exact ⟨hc, hd, hf⟩
  · rintro ⟨rfl, rfl, rfl⟩
    rfl

@[simp] theorem slaveValue_slaveWord (d : Byte) (f : Bool) : slaveValue (slaveWord d f) = d := by
  refine BitVec.eq_of_getLsbD_eq fun k hk => ?_
  rw [slaveValue, BitVec.getLsbD_extractLsb', slaveWord_eq_concat, BitVec.getLsbD_concat]
  simp [hk]

@[simp] theorem slaveFraming_slaveWord (d : Byte) (f : Bool) : slaveFraming (slaveWord d f) = f := by
  rw [slaveFraming, slaveWord_eq_concat, BitVec.getLsbD_concat, if_pos rfl]

/-- R50: the two fields cover the word. -/
theorem slaveWord_fields (w : BitVec 9) : slaveWord (slaveValue w) (slaveFraming w) = w := by
  refine BitVec.eq_of_getLsbD_eq fun k hk => ?_
  rw [slaveWord_eq_concat, BitVec.getLsbD_concat, slaveValue, BitVec.getLsbD_extractLsb']
  interval_cases k <;> rfl

theorem exists_eq_slaveWord (w : BitVec 9) : ∃ d f, w = slaveWord d f :=
  ⟨_, _, (slaveWord_fields w).symm⟩

/-! ### The RW_ID byte and its fields -/

theorem rwid_eq_cons (b : Bool) (id : BitVec 7) : (BitVec.ofBool b ++ id : Byte) = id.cons b := rfl

@[simp] theorem rwidDir_append (b : Bool) (id : BitVec 7) : rwidDir (BitVec.ofBool b ++ id) = b := by
  rw [rwidDir, rwid_eq_cons, BitVec.getLsbD_cons, if_pos rfl]

@[simp] theorem rwidSlave_append (b : Bool) (id : BitVec 7) : rwidSlave (BitVec.ofBool b ++ id) = id := by
  refine BitVec.eq_of_getLsbD_eq fun k hk => ?_
  rw [rwidSlave, BitVec.getLsbD_extractLsb', rwid_eq_cons, BitVec.getLsbD_cons]
  simp [hk, hk.ne]

/-- R55: direction and slave ID cover the byte. -/
theorem rwid_fields (d : Byte) : BitVec.ofBool (rwidDir d) ++ rwidSlave d = d := by
  refine BitVec.eq_of_getLsbD_eq fun k hk => ?_
  rw [rwid_eq_cons, BitVec.getLsbD_cons, rwidDir, rwidSlave, BitVec.getLsbD_extractLsb']
  interval_cases k <;> rfl

/-! ### What the decoder answers, by its fields -/

section
variable (c : Bool) (d : Byte) (f : Bool)

@[simp] theorem decodeMaster_seekingStart : decodeMaster .seekingStart (masterWord c d f) =
    if c && d == startValue then .ok (.start f) else .ok (.skip c d f) := by
  simp [decodeMaster]

@[simp] theorem decodeMaster_readingAddress : decodeMaster .readingAddress (masterWord c d f) =
    if c then .ok (.ctlInAddr d f) else .ok (.addr d f) := by
  simp [decodeMaster]

@[simp] theorem decodeMaster_readingRwId : decodeMaster .readingRwId (masterWord c d f) =
    if c then .ok (.ctlInRwid d f)
    else if rwidDir d then .ok (.rwidRd (rwidSlave d) f) else .ok (.rwidWr (rwidSlave d) f) := by
  simp [decodeMaster]

@[simp] theorem decodeMaster_writingData : decodeMaster .writingData (masterWord c d f) =
    if c then .error .noMasterRow else .ok (.wdata d f) := by
  simp [decodeMaster]

@[simp] theorem decodeMaster_seekingEnd : decodeMaster .seekingEnd (masterWord c d f) =
    if c then (if d == endValue then .ok (.endMark f) else .ok (.badEnd d f)) else .error .noMasterRow := by
  simp [decodeMaster]

end

@[simp] theorem decodeSlave_readingData (d : Byte) (f : Bool) :
    decodeSlave .readingData (slaveWord d f) = .ok (.rdata d f) := by
  simp [decodeSlave]

/-- A LOW phase followed by a HIGH phase is read by its unit counts. -/
theorem decodePulse_eq {levels : List Level} (st : TState) (hlow : lowRun levels ≠ 0)
    (hhigh : Level.low ∉ afterLow levels) :
    decodePulse st levels = if isTrigger st (lowRun levels) then .ok .trigger
      else .ok (classifyStrict (lowRun levels) (afterLow levels).length) :=
  if_neg (not_or.2 ⟨hlow, hhigh⟩)

theorem isTrigger_iff {st : TState} {l : Nat} : isTrigger st l = true ↔ st = .awaitingTrigger ∧ l = 1 := by
  simp [isTrigger]

/-- What a pattern that is read can be. -/
theorem decodePulse_eq_ok {st : TState} {levels : List Level} {i : Instr} (h : decodePulse st levels = .ok i) :
    (i = .trigger ∧ st = .awaitingTrigger) ∨
    (¬(st = .awaitingTrigger ∧ lowRun levels = 1) ∧ i = classifyStrict (lowRun levels) (afterLow levels).length) := by
  unfold decodePulse at h
  split at h
  · cases h
  · split at h
    · cases h
      exact .inl ⟨rfl, (isTrigger_iff.1 ‹_›).1⟩
    · rename_i ht
      cases h
      exact .inr ⟨isTrigger_iff.not.1 ht, rfl⟩

/-- A MASTER word that is read: its symbol is one of the state's, and makes the word again. -/
theorem decodeMaster_eq_ok {st : TState} {w : BitVec 10} {i : Instr} (h : decodeMaster st w = .ok i) :
    i.wellFormed = true ∧ i.legalIn st = true ∧ encode i = .master w := by
  obtain ⟨c, d, f, rfl⟩ := exists_eq_masterWord w
  cases st with
  | idle | awaitingTrigger | readingData => cases h
  | seekingStart =>
    rw [decodeMaster_seekingStart] at h
    split at h
    · rename_i hstart
      cases h
      obtain ⟨rfl, rfl⟩ : c = true ∧ d = startValue := by simpa using hstart
      exact ⟨rfl, rfl, rfl⟩
    · rename_i hskip
      cases h
      exact ⟨congrArg not (Bool.eq_false_of_not_eq_true hskip), rfl, rfl⟩
  | readingAddress =>
    rw [decodeMaster_readingAddress] at h
    cases c <;> cases h <;> exact ⟨rfl, rfl, rfl⟩
  | readingRwId =>
    rw [decodeMaster_readingRwId] at h
    cases c with
    | true =>
      cases h
      exact ⟨rfl, rfl, rfl⟩
    | false =>
      have hd := rwid_fields d
      cases hdir : rwidDir d <;> rw [hdir] at h hd <;> cases h
      · exact ⟨rfl, rfl, congrArg (fun x => Wire.master (masterWord false x f)) hd⟩
      · exact ⟨rfl, rfl, congrArg (fun x => Wire.master (masterWord false x f)) hd⟩
  | writingData =>
    rw [decodeMaster_writingData] at h
    cases c <;> cases h
    exact ⟨rfl, rfl, rfl⟩
  | seekingEnd =>
    rw [decodeMaster_seekingEnd] at h
    cases c with
    | false => cases h
    | true =>
      rw [if_pos rfl] at h
      split at h
      · rename_i hend
        cases h
        obtain rfl := eq_of_beq hend
        exact ⟨rfl, rfl, rfl⟩
      · rename_i hbad
        cases h
        exact ⟨by simpa [Instr.wellFormed] using hbad, rfl, rfl⟩

/-- The same of a SLAVE word. -/
theorem decodeSlave_eq_ok {st : TState} {w : BitVec 9} {i : Instr} (h : decodeSlave st w = .ok i) :
    i.wellFormed = true ∧ i.legalIn st = true ∧ encode i = .slave w := by
  unfold decodeSlave at h
  split at h
  · cases h
    subst st
    exact ⟨rfl, rfl, congrArg Wire.slave (slaveWord_fields w)⟩
  · cases h

/-! ### The rows of the table, by field -/

/-- The M10 rows with match and mask written as fields (R61). -/
theorem frameRows_eq_fields : frameRows =
    [⟨"START", .seekingStart, masterWord true startValue false, masterWord true 0xFF false⟩,
     ⟨"SKIP", .seekingStart, masterWord false 0 false, masterWord false 0 false⟩,
     ⟨"ADDR", .readingAddress, masterWord false 0 false, masterWord true 0 false⟩,
     ⟨"CTL_IN_ADDR", .readingAddress, masterWord true 0 false, masterWord true 0 false⟩,
     ⟨"RWID_WR", .readingRwId, masterWord false 0 false, masterWord true 0x80 false⟩,
     ⟨"RWID_RD", .readingRwId, masterWord false 0x80 false, masterWord true 0x80 false⟩,
     ⟨"CTL_IN_RWID", .readingRwId, masterWord true 0 false, masterWord true 0 false⟩,
     ⟨"WDATA", .writingData, masterWord false 0 false, masterWord true 0 false⟩,
     ⟨"END", .seekingEnd, masterWord true endValue false, masterWord true 0xFF false⟩,
     ⟨"BAD_END", .seekingEnd, masterWord true 0 false, masterWord true 0 false⟩] := by
  decide

theorem masterWord_and (c c' : Bool) (d d' : Byte) (f f' : Bool) :
    masterWord c d f &&& masterWord c' d' f' = masterWord (c && c') (d &&& d') (f && f') := by
  simp only [masterWord_eq_concat, BitVec.concat_and_concat, BitVec.cons_and_cons]

/-- A row that leaves the framing bit alone tests the CMD bit and the value. -/
@[simp] theorem applies_masterWord (m : String) (r st : TState) (vc mc c f : Bool) (vd md d : Byte) :
    FrameRow.applies ⟨m, r, masterWord vc vd false, masterWord mc md false⟩ st (masterWord c d f) =
      (r == st && ((c && mc) == vc && d &&& md == vd)) := by
  rw [Bool.eq_iff_iff]
  simp [FrameRow.applies, masterWord_and, masterWord_inj]

/-- A mask on bit 7 reads the direction (R55). -/
theorem and_dirMask (d : Byte) : d &&& 128#8 = if rwidDir d then 128#8 else 0#8 := by
  refine BitVec.eq_of_getLsbD_eq fun k hk => ?_
  rw [BitVec.getLsbD_and, rwidDir]
  interval_cases k <;> cases d.getLsbD 7 <;> simp

theorem and_dirMask_eq_zero_iff (d : Byte) : d &&& 128#8 = 0#8 ↔ rwidDir d = false := by
  rw [and_dirMask]
  cases rwidDir d <;> decide

theorem and_dirMask_eq_self_iff (d : Byte) : d &&& 128#8 = 128#8 ↔ rwidDir d = true := by
  rw [and_dirMask]
  cases rwidDir d <;> decide

theorem and_valueMask (d : Byte) : d &&& 255#8 = d := BitVec.and_allOnes

/-- "The first row that applies", one row at a time. -/
theorem map_find?_cons (p : FrameRow → Bool) (r : FrameRow) (rows : List FrameRow) :
    ((r :: rows).find? p).map FrameRow.mnemonic =
      if p r then some r.mnemonic else (rows.find? p).map FrameRow.mnemonic := by
  rw [List.find?_cons]
  cases p r <;> rfl

/-- The table with its ten rows as questions to the fields of the word. -/
theorem tableMnemonic_masterWord (st : TState) (c : Bool) (d : Byte) (f : Bool) :
    tableMnemonic st (masterWord c d f) =
      if .seekingStart = st ∧ c = true ∧ d = startValue then some "START"
      else if .seekingStart = st then some "SKIP"
      else if .readingAddress = st ∧ c = false then some "ADDR"
      else if .readingAddress = st ∧ c = true then some "CTL_IN_ADDR"
      else if .readingRwId = st ∧ c = false ∧ rwidDir d = false then some "RWID_WR"
      else if .readingRwId = st ∧ c = false ∧ rwidDir d = true then some "RWID_RD"
      else if .readingRwId = st ∧ c = true then some "CTL_IN_RWID"
      else if .writingData = st ∧ c = false then some "WDATA"
      else if .seekingEnd = st ∧ c = true ∧ d = endValue then some "END"
      else if .seekingEnd = st ∧ c = true then some "BAD_END"
      else none := by
  rw [tableMnemonic, frameRows_eq_fields]
  simp only [map_find?_cons, List.find?_nil, Option.map_none, applies_masterWord]
  simp [and_valueMask, and_dirMask_eq_zero_iff, and_dirMask_eq_self_iff]

end Sys2Proof
end

section
/-! SUPPORT. The statements about decoding and encoding, settled. -/

namespace Sys2Proof.Machine

/-- Settles O19, by the symbols: the pulses by their unit counts, the frames by their state's rows. -/
theorem decodeInvertsEncode : Obligations.DecodeInvertsEncode := by
  intro i st hwf hlegal
  cases i with
  | bit0 =>
    have hst : isTrigger st 1 = false := by
      rw [Bool.eq_false_iff, Ne, isTrigger_iff]
      rintro ⟨rfl, -⟩
      cases hlegal
    exact (decodePulse_eq st (by decide) (by decide)).trans (if_neg (Bool.eq_false_iff.1 hst))
  | bit1 | badPulse =>
    exact (decodePulse_eq st (by decide) (by decide)).trans (if_neg fun h => absurd (isTrigger_iff.1 h).2 (by decide))
  | trigger =>
    obtain rfl : st = .awaitingTrigger := eq_of_beq hlegal
    rfl
  | start f =>
    obtain rfl : st = .seekingStart := eq_of_beq hlegal
    exact decodeMaster_seekingStart true startValue f
  | skip c d f =>
    obtain rfl : st = .seekingStart := eq_of_beq hlegal
    have hskip : (c && d == startValue) = false := by simpa only [Instr.wellFormed, Bool.not_eq_true'] using hwf
    exact (decodeMaster_seekingStart c d f).trans (if_neg (Bool.eq_false_iff.1 hskip))
  | addr a f =>
    obtain rfl : st = .readingAddress := eq_of_beq hlegal
    exact decodeMaster_readingAddress false a f
  | ctlInAddr d f =>
    obtain rfl : st = .readingAddress := eq_of_beq hlegal
    exact decodeMaster_readingAddress true d f
  | rwidWr id f | rwidRd id f =>
    obtain rfl : st = .readingRwId := eq_of_beq hlegal
    simp only [encode, decode, decodeMaster_readingRwId, rwidDir_append, rwidSlave_append]
    rfl
  | ctlInRwid d f =>
    obtain rfl : st = .readingRwId := eq_of_beq hlegal
    exact decodeMaster_readingRwId true d f
  | wdata d f =>
    obtain rfl : st = .writingData := eq_of_beq hlegal
    exact decodeMaster_writingData false d f
  | endMark f =>
    obtain rfl : st = .seekingEnd := eq_of_beq hlegal
    exact decodeMaster_seekingEnd true endValue f
  | badEnd d f =>
    obtain rfl : st = .seekingEnd := eq_of_beq hlegal
    have hbad : d ≠ endValue := bne_iff_ne.1 hwf
    simp [encode, decode, hbad]
  | rdata d f =>
    obtain rfl : st = .readingData := eq_of_beq hlegal
    exact decodeSlave_readingData d f

/-- A pulse that is read is well formed and legal, and no frame. -/
theorem wellFormed_of_decodePulse {st : TState} {levels : List Level} {i : Instr} (h : decodePulse st levels = .ok i) :
    i.wellFormed = true ∧ i.legalIn st = true ∧ i.isFrame = false := by
  rcases decodePulse_eq_ok h with ⟨rfl, rfl⟩ | ⟨hno, rfl⟩
  · exact ⟨rfl, rfl, rfl⟩
  · rcases classifyStrict_cases (lowRun levels) (afterLow levels).length with ⟨he, hl, -⟩ | ⟨he, -⟩ | he <;> rw [he]
    · have hst : st ≠ .awaitingTrigger := fun hst => hno ⟨hst, hl⟩
      exact ⟨rfl, bne_iff_ne.2 hst, rfl⟩
    · exact ⟨rfl, rfl, rfl⟩
    · exact ⟨rfl, rfl, rfl⟩

/-- Settles O20, by the wire formats. -/
theorem decodedSymbolEncodesBack : Obligations.DecodedSymbolEncodesBack := by
  intro st x i h
  cases x with
  | pulse levels =>
    obtain ⟨hwf, hlegal, hframe⟩ := wellFormed_of_decodePulse h
    exact ⟨hwf, hlegal, fun hf => absurd (hframe.symm.trans hf) nofun⟩
  | master w =>
    obtain ⟨hwf, hlegal, henc⟩ := decodeMaster_eq_ok h
    exact ⟨hwf, hlegal, fun _ => henc⟩
  | slave w =>
    obtain ⟨hwf, hlegal, henc⟩ := decodeSlave_eq_ok h
    exact ⟨hwf, hlegal, fun _ => henc⟩

/-- Settles O21, by the states: in each, decoder and table ask the same questions of the word's fields. -/
theorem decoderFollowsTheTable : Obligations.DecoderFollowsTheTable := by
  intro st w
  obtain ⟨c, d, f, rfl⟩ := exists_eq_masterWord w
  rw [tableMnemonic_masterWord]
  cases st with
  | idle | awaitingTrigger | readingData => rfl
  | seekingStart =>
    rw [decodeMaster_seekingStart]
    cases c
    · rfl
    · by_cases hd : d = startValue <;> simp [hd, Except.toOption, Instr.mnemonic]
  | readingAddress =>
    rw [decodeMaster_readingAddress]
    cases c <;> rfl
  | readingRwId =>
    rw [decodeMaster_readingRwId]
    cases c
    · cases rwidDir d <;> rfl
    · rfl
  | writingData =>
    rw [decodeMaster_writingData]
    cases c <;> rfl
  | seekingEnd =>
    rw [decodeMaster_seekingEnd]
    cases c
    · rfl
    · by_cases hd : d = endValue <;> simp [hd, Except.toOption, Instr.mnemonic]

/-- Settles O22: each word is one of `encode`'s, in its symbol's state. -/
theorem specWordsDecode : Obligations.SpecWordsDecode :=
  ⟨decodeInvertsEncode (.start true) .seekingStart rfl rfl,
   decodeInvertsEncode (.addr 0x06 true) .readingAddress rfl rfl,
   decodeInvertsEncode (.rwidRd 3 true) .readingRwId rfl rfl,
   decodeInvertsEncode (.wdata 0x05 true) .writingData rfl rfl,
   decodeInvertsEncode (.endMark true) .seekingEnd rfl rfl,
   decodeInvertsEncode (.rdata 0xA5 true) .readingData rfl rfl,
   decodeInvertsEncode .trigger .awaitingTrigger rfl rfl,
   decodeInvertsEncode .bit0 .seekingStart rfl rfl⟩

end Sys2Proof.Machine
end

section
/-! SUPPORT. Whole transactions at the symbol layer (R52, R53): each frame of a transaction takes what has been sent so
far one byte further, then the loops over address and data bytes, and the sequence of all parts. -/

namespace Sys2Proof.Machine

/-! ### Triples over runs of symbols -/

/-- The symbols of `l` all run from `s`, and what they reach meets `P`. -/
def Reaches (l : List Instr) (s : State) (P : State → Prop) : Prop := ∃ t, runSymbols l s = .next t ∧ P t

theorem runSymbols_append_next {a : List Instr} {s t : State} (h : runSymbols a s = .next t) (b : List Instr) :
    runSymbols (a ++ b) s = runSymbols b t := by
  induction a generalizing s with
  | nil =>
    cases h
    rfl
  | cons i a ih =>
    obtain ⟨u, hu, hrest⟩ := andThen_eq_next_iff.1 h
    exact (runSymbols_cons_next hu (a ++ b)).trans (ih hrest)

theorem Reaches.append {a b : List Instr} {s : State} {P Q : State → Prop} (h : Reaches a s P)
    (k : ∀ t, P t → Reaches b t Q) : Reaches (a ++ b) s Q := by
  obtain ⟨t, ht, hp⟩ := h
  obtain ⟨u, hu, hq⟩ := k t hp
  exact ⟨u, (runSymbols_append_next ht b).trans hu, hq⟩

/-- The loop rule: what every element extends by itself holds of the whole list. An element is sent only while not all
of `l` is. -/
theorem reaches_flatMap {α : Type} {g : α → List Instr} {P : List α → State → Prop} {l : List α} {s : State}
    (hs : P [] s)
    (hstep : ∀ sent x t, sent.length < l.length → P sent t → Reaches (g x) t (P (sent ++ [x]))) :
    Reaches (l.flatMap g) s (P l) := by
  induction l using List.reverseRecOn with
  | nil => exact ⟨s, rfl, hs⟩
  | append_singleton l x ih =>
    rw [List.length_append, List.length_singleton] at hstep
    rw [List.flatMap_append, List.flatMap_singleton]
    exact (ih fun sent y t hlt => hstep sent y t (hlt.trans (Nat.lt_succ_self _))).append fun t ht =>
      hstep l x t (Nat.lt_succ_self _) ht

/-! ### What the records and the counters say -/

theorem values_append_of_nil {out records : List Record} (h : records.filterMap Record.dataValue? = []) :
    (out ++ records).filterMap Record.dataValue? = out.filterMap Record.dataValue? := by
  rw [List.filterMap_append, h, List.append_nil]

/-- The bits of a frame leave no data value. -/
theorem values_bits (vs : List Bool) (a b : Pos) :
    (vs.map fun v => (⟨.bitsData v, a, b⟩ : Record)).filterMap Record.dataValue? = [] := by
  simp [List.filterMap_eq_nil_iff, Record.dataValue?]

theorem satInc_min (c : Config) (n : Nat) :
    satInc c (min n (2 ^ c.dataCntW - 1)) = min (n + 1) (2 ^ c.dataCntW - 1) := by
  unfold satInc
  omega

theorem addressValue_append_singleton (address : List (Byte × Bool)) (p : Byte × Bool) :
    addressValue (address ++ [p]) = 256 * addressValue address + p.1.toNat := by
  simp [addressValue]

theorem addressValue_lt (address : List (Byte × Bool)) : addressValue address < 256 ^ address.length := by
  induction address using List.reverseRecOn with
  | nil => decide
  | append_singleton address p ih =>
    have hp := p.1.isLt
    rw [addressValue_append_singleton, List.length_append, List.length_singleton, Nat.pow_succ]
    omega

/-- A further byte of an address of at most three does not push the first ones out (R19, R104). -/
theorem shiftAddr_addressValue {x : Addr} {address : List (Byte × Bool)} (hx : x.toNat = addressValue address)
    (hlen : address.length ≤ 2) (p : Byte × Bool) :
    (shiftAddr x p.1).toNat = addressValue (address ++ [p]) := by
  have hpow : 256 ^ address.length ≤ 256 ^ 2 := Nat.pow_le_pow_right (by decide) hlen
  have hlt := addressValue_lt address
  rw [shiftAddr_toNat, addressValue_append_singleton, hx]
  omega

/-! ### What has been sent so far -/

/-- The state the block waits in once `n` address bytes are in (R104). -/
def addressState (c : Config) (n : Nat) : TState := if n = c.addressBytes then .readingRwId else .readingAddress

/-- The state the block waits in for a data byte or END (R105, R106, R111). -/
def dataState (dir : Bool) : TState := if dir then .awaitingTrigger else .writingData

/-- A transaction that began in `s` has brought the block to a byte boundary in `st`, with these address and data
bytes. -/
structure SentSoFar (s : State) (st : TState) (address data : List (Byte × Bool)) (t : State) : Prop
    extends SamePulse s t where
  state : t.state = st
  cnt : t.cnt = 0
  txnStart : t.txnStart = s.fallPos
  addr : t.addr.toNat = addressValue address
  addrCnt : t.addrCnt.val = address.length
  dataCnt : t.dataCnt = min data.length (2 ^ s.cfg.dataCntW - 1)
  values : t.out.filterMap Record.dataValue? = s.out.filterMap Record.dataValue? ++ data.map Prod.fst

/-- The transaction is in its address. -/
def AddressSoFar (s : State) (address : List (Byte × Bool)) : State → Prop :=
  SentSoFar s (addressState s.cfg address.length) address []

/-- The transaction is past its RW_ID byte. -/
structure DirectedSoFar (s : State) (dir : Bool) (id : BitVec 7) (st : TState) (address data : List (Byte × Bool))
    (t : State) : Prop extends SentSoFar s st address data t where
  rwId : t.rwId = BitVec.ofBool dir ++ id
  rwidValid : t.rwidValid = true
  dir : t.dir = dir

/-- The transaction that began in `s` has closed with outcome OK (R112, R114). -/
def ClosedOk (s : State) (dir : Bool) (id : BitVec 7) (address data : List (Byte × Bool)) (t : State) : Prop :=
  ∃ info, t.state = .idle ∧ t.cnt = 0 ∧
    t.out.getLast? = some ⟨.txn info, s.fallPos, s.pos⟩ ∧ info.outcome = .ok ∧
    info.addr.toNat = addressValue address ∧ info.addrCnt.val = address.length ∧
    info.rwId = BitVec.ofBool dir ++ id ∧ info.rwidValid = true ∧ info.dir = dir ∧
    info.dataCnt = min data.length (2 ^ s.cfg.dataCntW - 1) ∧
    t.out.filterMap Record.dataValue? = s.out.filterMap Record.dataValue? ++ data.map Prod.fst

/-! ### The bits of a frame, before its symbol runs -/

/-- The registers when the ten bits of a MASTER frame are in and its symbol is to run in `st` (R86 to R89). -/
def masterRead (st : TState) (c : Bool) (d : Byte) (f : Bool) (t : State) : State :=
  { t with
    state := st
    cmd := c
    sh := d
    byteStart := t.fallPos
    out := t.out ++ ⟨.bitsCmd c, t.fallPos, t.pos⟩ ::
      (bitsMsbFirst d ++ [f]).map fun v => ⟨.bitsData v, t.fallPos, t.pos⟩ }

/-- The same of the nine bits of a SLAVE frame. -/
def slaveRead (d : Byte) (f : Bool) (t : State) : State :=
  { t with
    sh := d
    byteStart := t.fallPos
    out := t.out ++ (bitsMsbFirst d ++ [f]).map fun v => ⟨.bitsData v, t.fallPos, t.pos⟩ }

theorem masterRead_values (st : TState) (c : Bool) (d : Byte) (f : Bool) (t : State) :
    (masterRead st c d f t).out.filterMap Record.dataValue? = t.out.filterMap Record.dataValue? :=
  values_append_of_nil ((List.filterMap_cons_none rfl).trans (values_bits ..))

theorem slaveRead_values (d : Byte) (f : Bool) (t : State) :
    (slaveRead d f t).out.filterMap Record.dataValue? = t.out.filterMap Record.dataValue? :=
  values_append_of_nil (values_bits ..)

section
variable {s t : State} {st : TState} {address data : List (Byte × Bool)} {dir : Bool} {id : BitVec 7}

/-- A single symbol. -/
theorem reaches_singleton {i : Instr} {k : State} {P : State → Prop} (h : exec i t = .next k) (hk : P k) :
    Reaches [i] t P :=
  ⟨k, (runSymbols_singleton i t).trans h, hk⟩

/-- The bits of a MASTER frame do what its symbol does in the state that the CMD bit leads to. -/
theorem reaches_masterBits {c f : Bool} {d : Byte} {i : Instr} {P : State → Prop} (hmsb : t.cfg.msbFirst = true)
    (hc : t.cnt = 0) (hs : t.state.shape = .master) (hst : afterCmd (leaveIdle t.state) c = st)
    (henc : encode i = .master (masterWord c d f)) (hwf : i.wellFormed = true) (hl : i.legalIn st = true)
    (h : Reaches [i] (masterRead st c d f t) P) : Reaches (masterBits c d f) t P := by
  subst st
  have hdec := decodeInvertsEncode i _ hwf hl
  rw [henc] at hdec
  obtain ⟨k, hk, hp⟩ := h
  exact ⟨k, (runSymbols_masterBits hmsb hc hs hdec).trans ((runSymbols_singleton i _).symm.trans hk), hp⟩

/-- The bits of a SLAVE frame do what its symbol does. -/
theorem reaches_slaveBits {f : Bool} {d : Byte} {P : State → Prop} (hmsb : t.cfg.msbFirst = true)
    (hc : t.cnt = 0) (hs : t.state = .readingData) (h : Reaches [.rdata d f] (slaveRead d f t) P) :
    Reaches (slaveBits d f) t P := by
  obtain ⟨k, hk, hp⟩ := h
  exact ⟨k, (runSymbols_slaveBits hmsb hc hs (decodeSlave_readingData d f)).trans
    ((runSymbols_singleton _ _).symm.trans hk), hp⟩

/-- The bits of a frame add nothing to what has been sent, nor does moving to the state in which its symbol runs. -/
theorem SentSoFar.masterRead (h : SentSoFar s st address data t) (u : TState) (c : Bool) (d : Byte) (f : Bool) :
    SentSoFar s u address data (masterRead u c d f t) :=
  { h with
    toSamePulse := h.toSamePulse.trans (samePulse_of_eq rfl)
    state := rfl
    values := (masterRead_values ..).trans h.values }

theorem DirectedSoFar.masterRead (h : DirectedSoFar s dir id st address data t) (u : TState) (c : Bool) (d : Byte)
    (f : Bool) : DirectedSoFar s dir id u address data (masterRead u c d f t) :=
  { h with toSentSoFar := h.toSentSoFar.masterRead u c d f }

theorem DirectedSoFar.slaveRead (h : DirectedSoFar s dir id st address data t) (d : Byte) (f : Bool) :
    DirectedSoFar s dir id st address data (slaveRead d f t) :=
  { h with
    toSamePulse := h.toSamePulse.trans (samePulse_of_eq rfl)
    values := (slaveRead_values ..).trans h.values }

/-! ### The symbols of a transaction -/

/-- START opens a transaction with nothing in it (R103). -/
theorem reaches_start (hlegal : s.cfg.legal = true) (hmsb : s.cfg.msbFirst = true) (hcnt : s.cnt = 0)
    (hopen : s.state.txnOpen = false) (f : Bool) :
    Reaches (masterBits true startValue f) s (AddressSoFar s []) := by
  obtain ⟨hshape, hst⟩ : s.state.shape = .master ∧ afterCmd (leaveIdle s.state) true = .seekingStart := by
    cases h : s.state with
    | idle | seekingStart => exact ⟨rfl, rfl⟩
    | _ => simp [h, TState.txnOpen] at hopen
  have hbytes : 0 ≠ s.cfg.addressBytes := by
    obtain ⟨-, -, hb, -⟩ := legal_iff.1 hlegal
    omega
  have hread : (masterRead .seekingStart true startValue f s).state = .seekingStart := rfl
  refine reaches_masterBits (i := .start f) hmsb hcnt hshape hst rfl rfl rfl
    (reaches_singleton (inState_eq_next_iff.2 ⟨hread, rfl⟩) ?_)
  exact {
    toSamePulse := samePulse_of_eq rfl
    state := (if_neg hbytes).symm
    cnt := hcnt
    txnStart := rfl
    addr := rfl
    addrCnt := rfl
    dataCnt := (Nat.zero_min _).symm
    values := (values_append_of_nil rfl).trans ((masterRead_values ..).trans (List.append_nil _).symm) }

/-- One address byte; the last one moves on to the RW_ID byte (R104). -/
theorem reaches_addrInstr (hlegal : s.cfg.legal = true) (hlt : address.length < s.cfg.addressBytes)
    (h : SentSoFar s .readingAddress address [] t) (p : Byte × Bool) :
    Reaches [.addr p.1 p.2] t (AddressSoFar s (address ++ [p])) := by
  have hbytes : s.cfg.addressBytes ≤ 3 := by
    obtain ⟨-, -, hb, -⟩ := legal_iff.1 hlegal
    omega
  have hcnt := h.addrCnt
  refine reaches_singleton (inState_eq_next_iff.2 ⟨h.state, rfl⟩) ?_
  exact {
    toSamePulse := h.toSamePulse.trans (samePulse_of_eq rfl)
    state := by simp only [addressState, List.length_append, List.length_singleton, hcnt, h.cfg]
    cnt := h.cnt
    txnStart := h.txnStart
    addr := shiftAddr_addressValue h.addr (by omega) p
    addrCnt := by
      rw [List.length_append, List.length_singleton, ← hcnt]
      exact Fin.val_add_eq_of_add_lt (show t.addrCnt.val + 1 < 4 by omega)
    dataCnt := h.dataCnt
    values := (values_append_of_nil (by split <;> rfl)).trans h.values }

theorem reaches_addr (hlegal : s.cfg.legal = true) (hmsb : s.cfg.msbFirst = true)
    (hlt : address.length < s.cfg.addressBytes) (h : AddressSoFar s address t) (p : Byte × Bool) :
    Reaches (masterBits false p.1 p.2) t (AddressSoFar s (address ++ [p])) := by
  have hst : t.state = .readingAddress := h.state.trans (if_neg hlt.ne)
  exact reaches_masterBits (i := .addr p.1 p.2) (h.cfg ▸ hmsb) h.cnt (by rw [hst]; rfl) (by rw [hst]; rfl) rfl rfl rfl
    (reaches_addrInstr hlegal hlt (h.masterRead ..) p)

/-- The RW_ID byte leaves the address alone and sets the direction (R55, R105). -/
theorem SentSoFar.takeRwid (h : SentSoFar s st address data t) (dir : Bool) (id : BitVec 7) (f : Bool) :
    DirectedSoFar s dir id st address data (takeRwid (BitVec.ofBool dir ++ id) f t) :=
  { h with
    toSamePulse := h.toSamePulse.trans (samePulse_of_eq rfl)
    values := (values_append_of_nil rfl).trans h.values
    rwId := rfl
    rwidValid := rfl
    dir := rwidDir_append dir id }

/-- The symbol of an RW_ID byte is its direction's (R55). -/
def rwidInstr (dir : Bool) (id : BitVec 7) (f : Bool) : Instr := if dir then .rwidRd id f else .rwidWr id f

theorem reaches_rwidInstr (h : SentSoFar s .readingRwId address data t) (dir : Bool) (id : BitVec 7) (f : Bool) :
    Reaches [rwidInstr dir id f] t (DirectedSoFar s dir id (dataState dir) address data) := by
  have htake := h.takeRwid dir id f
  cases dir with
  | false | true =>
    refine reaches_singleton (inState_eq_next_iff.2 ⟨h.state, rfl⟩) ?_
    exact { htake with
      toSamePulse := htake.toSamePulse.trans (samePulse_of_eq rfl)
      state := rfl }

theorem reaches_rwid (hmsb : s.cfg.msbFirst = true) (h : SentSoFar s .readingRwId address data t) (dir : Bool)
    (id : BitVec 7) (f : Bool) :
    Reaches (masterBits false (BitVec.ofBool dir ++ id) f) t
      (DirectedSoFar s dir id (dataState dir) address data) := by
  have hrun := reaches_rwidInstr (h.masterRead .readingRwId false (BitVec.ofBool dir ++ id) f) dir id f
  refine reaches_masterBits (h.cfg ▸ hmsb) h.cnt (by rw [h.state]; rfl) (by rw [h.state]; rfl) ?_ ?_ ?_ hrun
  all_goals cases dir <;> rfl

theorem dataCnt_succ (h : DirectedSoFar s dir id st address data t) (p : Byte × Bool) :
    satInc t.cfg t.dataCnt = min (data ++ [p]).length (2 ^ s.cfg.dataCntW - 1) := by
  rw [List.length_append, List.length_singleton, h.dataCnt, h.cfg, satInc_min]

theorem values_append_data {p : Byte × Bool} {records : List Record}
    (h : DirectedSoFar s dir id st address data t) (hr : records.filterMap Record.dataValue? = [p.1]) :
    (t.out ++ records).filterMap Record.dataValue? =
      s.out.filterMap Record.dataValue? ++ (data ++ [p]).map Prod.fst := by
  rw [List.filterMap_append, h.values, hr, List.map_append, List.append_assoc]
  rfl

/-- One write data byte (R106). -/
theorem reaches_wdata (hmsb : s.cfg.msbFirst = true) (h : DirectedSoFar s false id .writingData address data t)
    (p : Byte × Bool) :
    Reaches (masterBits false p.1 p.2) t (DirectedSoFar s false id .writingData address (data ++ [p])) := by
  have hread := h.masterRead .writingData false p.1 p.2
  refine reaches_masterBits (i := .wdata p.1 p.2) (h.cfg ▸ hmsb) h.cnt (by rw [h.state]; rfl) (by rw [h.state]; rfl)
    rfl rfl rfl (reaches_singleton (inState_eq_next_iff.2 ⟨hread.state, rfl⟩) ?_)
  exact { hread with
    toSamePulse := hread.toSamePulse.trans (samePulse_of_eq rfl)
    dataCnt := dataCnt_succ hread p
    values := values_append_data hread rfl }

/-- The trigger that starts a SLAVE frame (R108). -/
theorem reaches_trigger (h : DirectedSoFar s dir id .awaitingTrigger address data t) :
    Reaches [.trigger] t (DirectedSoFar s dir id .readingData address data) := by
  refine reaches_singleton (exec_trigger_eq_next_iff.2 ⟨h.state, rfl⟩) ?_
  exact { h with
    toSamePulse := h.toSamePulse.trans (samePulse_of_eq rfl)
    state := rfl
    values := (values_append_of_nil rfl).trans h.values }

/-- One read data byte; the wait for the next trigger begins (R111). -/
theorem reaches_rdata (hmsb : s.cfg.msbFirst = true) (h : DirectedSoFar s dir id .readingData address data t)
    (p : Byte × Bool) :
    Reaches (slaveBits p.1 p.2) t (DirectedSoFar s dir id .awaitingTrigger address (data ++ [p])) := by
  have hread := h.slaveRead p.1 p.2
  refine reaches_slaveBits (h.cfg ▸ hmsb) h.cnt h.state
    (reaches_singleton (inState_eq_next_iff.2 ⟨hread.state, rfl⟩) ?_)
  exact { hread with
    toSamePulse := hread.toSamePulse.trans (samePulse_of_eq rfl)
    state := rfl
    dataCnt := dataCnt_succ hread p
    values := values_append_data hread rfl }

/-- END closes the transaction with all that was sent (R107, R112, R114). -/
theorem reaches_end (hmsb : s.cfg.msbFirst = true) (h : DirectedSoFar s dir id (dataState dir) address data t)
    (f : Bool) : Reaches (masterBits true endValue f) t (ClosedOk s dir id address data) := by
  have hread := h.masterRead .seekingEnd true endValue f
  have hshape : t.state.shape = .master := by
    rw [h.state]
    cases dir <;> rfl
  have hst : afterCmd (leaveIdle t.state) true = .seekingEnd := by
    rw [h.state]
    cases dir <;> rfl
  refine reaches_masterBits (i := .endMark f) (h.cfg ▸ hmsb) h.cnt hshape hst rfl rfl rfl
    (reaches_singleton (inState_eq_next_iff.2 ⟨hread.state, rfl⟩) ?_)
  refine ⟨⟨.ok, t.addr, t.addrCnt, t.rwId, t.rwidValid, t.dir, t.dataCnt⟩, rfl, hread.cnt, ?_, rfl, hread.addr,
    hread.addrCnt, hread.rwId, hread.rwidValid, hread.dir, hread.dataCnt,
    (values_append_of_nil rfl).trans hread.values⟩
  rw [← hread.pos, ← hread.txnStart]
  exact List.getLast?_append_of_ne_nil _ (List.cons_ne_nil _ _)

/-! ### The whole sequence -/

/-- The address bytes, one by one. -/
theorem reaches_address (hlegal : s.cfg.legal = true) (hmsb : s.cfg.msbFirst = true)
    (haddress : address.length = s.cfg.addressBytes) (h : AddressSoFar s [] t) :
    Reaches (address.flatMap fun p => masterBits false p.1 p.2) t (SentSoFar s .readingRwId address []) := by
  have hloop : Reaches (address.flatMap fun p => masterBits false p.1 p.2) t (AddressSoFar s address) :=
    reaches_flatMap h fun sent p u hlt hu => reaches_addr hlegal hmsb (haddress ▸ hlt) hu p
  have hfull : addressState s.cfg address.length = .readingRwId := if_pos haddress
  unfold AddressSoFar at hloop
  rwa [hfull] at hloop

/-- START, the address, RW_ID, a frame for each data byte, and END. -/
theorem reaches_transaction {frame : Byte × Bool → List Instr} (hlegal : s.cfg.legal = true)
    (hmsb : s.cfg.msbFirst = true) (hcnt : s.cnt = 0) (hopen : s.state.txnOpen = false)
    (haddress : address.length = s.cfg.addressBytes) (f g h : Bool)
    (hframe : ∀ sent p t, DirectedSoFar s dir id (dataState dir) address sent t →
      Reaches (frame p) t (DirectedSoFar s dir id (dataState dir) address (sent ++ [p]))) :
    Reaches (masterBits true startValue f ++ address.flatMap (fun p => masterBits false p.1 p.2) ++
      masterBits false (BitVec.ofBool dir ++ id) g ++ data.flatMap frame ++ masterBits true endValue h) s
      (ClosedOk s dir id address data) := by
  have hrwid : ∀ t, SentSoFar s .readingRwId address [] t → Reaches (masterBits false (BitVec.ofBool dir ++ id) g) t
      (DirectedSoFar s dir id (dataState dir) address []) := fun t ht => reaches_rwid hmsb ht dir id g
  have hdata : ∀ t, DirectedSoFar s dir id (dataState dir) address [] t →
      Reaches (data.flatMap frame) t (DirectedSoFar s dir id (dataState dir) address data) := fun t ht =>
    reaches_flatMap (P := DirectedSoFar s dir id (dataState dir) address) ht fun sent p u _ hu => hframe sent p u hu
  exact ((((reaches_start hlegal hmsb hcnt hopen f).append fun t ht => reaches_address hlegal hmsb haddress ht).append
    hrwid).append hdata).append fun t ht => reaches_end hmsb ht h

end

end Sys2Proof.Machine
end

section
/-! SUPPORT. The statements about whole transactions, settled. -/

namespace Sys2Proof.Machine

/-- Settles O57: each data byte is a WDATA frame. -/
theorem writeTransactionDecodes : Obligations.WriteTransactionDecodes := by
  intro s address data id f g h hlegal hmsb haddress hcnt hopen
  have hframe (sent : List (Byte × Bool)) (p : Byte × Bool) (t : State)
      (ht : DirectedSoFar s false id .writingData address sent t) :
      Reaches (masterBits false p.1 p.2) t (DirectedSoFar s false id .writingData address (sent ++ [p])) :=
    reaches_wdata hmsb ht p
  obtain ⟨t, hrun, info, hclosed⟩ :=
    reaches_transaction (data := data) hlegal hmsb hcnt hopen haddress f g h hframe
  exact ⟨t, info, hrun, hclosed⟩

/-- Settles O58: each data byte is a trigger and an RDATA frame. -/
theorem readTransactionDecodes : Obligations.ReadTransactionDecodes := by
  intro s address data id f g h hlegal hmsb haddress hcnt hopen
  have hframe (sent : List (Byte × Bool)) (p : Byte × Bool) (t : State)
      (ht : DirectedSoFar s true id .awaitingTrigger address sent t) :
      Reaches (.trigger :: slaveBits p.1 p.2) t (DirectedSoFar s true id .awaitingTrigger address (sent ++ [p])) :=
    (reaches_trigger ht).append fun _ hu => reaches_rdata hmsb hu p
  obtain ⟨t, hrun, info, hclosed⟩ :=
    reaches_transaction (data := data) hlegal hmsb hcnt hopen haddress f g h hframe
  exact ⟨t, info, hrun, hclosed⟩

end Sys2Proof.Machine
end

section
/-! SUPPORT. The classifier's rules as equations: what the unit counts and the idle test say in samples (R66, R67),
which pulses are which symbol (R68, R69, R76), what a Sample tick and an Eos tick are within the contract (R143, R144),
and what each phase rule answers (R73 to R76). -/

namespace Sys2Proof.Machine

/-! ### Durations -/

/-- The rounding of R66, as a bound: `units` reaches `k` exactly from half a unit before `k` units on. -/
theorem le_units_iff {c : Config} (hS : 0 < c.sampleRate) (k d : Nat) :
    k ≤ units c d ↔ 2 * k * c.sampleRate ≤ 10 * c.bitRate * d + c.sampleRate := by
  rw [units, Nat.le_div_iff_mul_le (by omega), Nat.mul_left_comm, ← Nat.mul_assoc]

/-- The comparison form of R66. -/
theorem units_eq_succ_iff {c : Config} (hS : 0 < c.sampleRate) (k d : Nat) :
    units c d = k + 1 ↔
      (2 * k + 1) * c.sampleRate ≤ 10 * c.bitRate * d ∧ 10 * c.bitRate * d < (2 * k + 3) * c.sampleRate := by
  have hlow := le_units_iff hS (k + 1) d
  have hhigh := le_units_iff hS (k + 2) d
  have hbounds : units c d = k + 1 ↔ k + 1 ≤ units c d ∧ ¬k + 2 ≤ units c d := by omega
  rw [hbounds, hlow, hhigh]
  simp only [Nat.mul_add, Nat.add_mul]
  omega

theorem units_eq_zero_iff {c : Config} (hS : 0 < c.sampleRate) (d : Nat) :
    units c d = 0 ↔ 10 * c.bitRate * d < c.sampleRate := by
  have h := le_units_iff hS 1 d
  omega

theorem isIdle_iff {c : Config} {h : Nat} : isIdle c h = true ↔ c.sampleRate < h * c.bitRate := decide_eq_true_iff

/-- The first idle sample of a HIGH phase (R75). -/
theorem isIdle_iff_threshold {c : Config} (hB : 0 < c.bitRate) (h : Nat) :
    isIdle c h = true ↔ c.sampleRate / c.bitRate + 1 ≤ h :=
  isIdle_iff.trans (Nat.div_lt_iff_lt_mul hB).symm

/-! ### Classification -/

/-- R68: bit 0 and bit 1 have one pair of unit counts each. -/
theorem classifyStrict_eq_iff (l h : Nat) :
    (classifyStrict l h = .bit0 ↔ l = 1 ∧ h = 4) ∧ (classifyStrict l h = .bit1 ↔ l = 4 ∧ h = 1) ∧
    (classifyStrict l h = .badPulse ↔ ¬(l = 1 ∧ h = 4) ∧ ¬(l = 4 ∧ h = 1)) := by
  by_cases h0 : l = 1 ∧ h = 4
  · simp [classifyStrict, h0]
  by_cases h1 : l = 4 ∧ h = 1
  · simp [classifyStrict, h1]
  simp only [classifyStrict, if_neg h0, if_neg h1]
  simp [h0, h1]

/-- R69: the LOW count alone decides. -/
theorem classifyIdle_eq_iff (l : Nat) :
    (classifyIdle l = .bit0 ↔ l = 1) ∧ (classifyIdle l = .bit1 ↔ l = 4) ∧
    (classifyIdle l = .badPulse ↔ l ≠ 1 ∧ l ≠ 4) := by
  by_cases h0 : l = 1
  · simp [classifyIdle, h0]
  by_cases h1 : l = 4
  · simp [classifyIdle, h1]
  simp [classifyIdle, h0, h1]

/-- R76: with less than its 5 units passed, a pulse carries no bit. -/
theorem classifyEos_eq_none {l h : Nat} (h0 : ¬(l = 1 ∧ 4 ≤ h)) (h1 : ¬(l = 4 ∧ 1 ≤ h)) : classifyEos l h = none := by
  rw [classifyEos, if_neg h0, if_neg h1]

theorem classifyEos_eq_some {l h : Nat} {i : Instr} (hi : i = .bit0 ∧ l = 1 ∧ 4 ≤ h ∨ i = .bit1 ∧ l = 4 ∧ 1 ≤ h) :
    classifyEos l h = some i := by
  rcases hi with ⟨rfl, rfl, hh⟩ | ⟨rfl, rfl, hh⟩ <;> simp [classifyEos, hh]

/-! ### Ticks within the contract -/

theorem andThen_assoc (o : Result) (j k : State → Result) :
    andThen (andThen o j) k = andThen o fun t => andThen (j t) k := by
  cases o <;> rfl

/-- A tick without records adds none to the run. -/
theorem recordTrace_of_silent {s : State} (h : s.out = []) : recordTrace s = s := by
  have htrace : s.trace ++ s.out = s.trace := by rw [h, List.append_nil]
  rw [recordTrace, htrace]

/-- The first sample takes no phase rule (R71). -/
theorem step_firstSample {s : State} {d : Level} (hsym : s.nextSymbol = .sample d) (hprimed : s.primed = false)
    (hl : s.cfg.legal = true) (hp : s.pos + 1 < 2 ^ s.cfg.posW) :
    step s = .next (endSample d { beginTick s with primed := true }) := by
  have htick : sampleTick d (beginTick s) = .next (endSample d { beginTick s with primed := true }) := by
    simp [sampleTick, hl, hprimed, Nat.not_le.2 hp]
  rw [step, tick, hsym, tickSymbol, htick, andThen_next, recordTrace_of_silent rfl]

section Sample

variable {s : State} {d : Level} (hsym : s.nextSymbol = .sample d) (hprimed : s.primed = true)
  (hl : s.cfg.legal = true) (hp : s.pos + 1 < 2 ^ s.cfg.posW)

include hsym hprimed hl hp

/-- Every later sample takes the rule of the phase, and then `prev` and `pos` move on (R143). -/
theorem step_sample :
    step s = andThen (phaseRule d (beginTick s)) fun t => .next (recordTrace (endSample d t)) := by
  have htick : sampleTick d (beginTick s) = andThen (phaseRule d (beginTick s)) fun t => .next (endSample d t) := by
    simp [sampleTick, hl, hprimed, Nat.not_le.2 hp]
  rw [step, tick, hsym, tickSymbol, htick, andThen_assoc]
  rfl

/-- A phase rule that runs no symbol and emits nothing. -/
theorem step_sample_silent {u : State} (h : phaseRule d (beginTick s) = .next u) (hout : u.out = []) :
    step s = .next (endSample d u) := by
  rw [step_sample hsym hprimed hl hp, h, andThen_next, recordTrace_of_silent (s := endSample d u) hout]

/-- A phase rule that runs a symbol and then moves on to the next phase by `k`. -/
theorem step_sample_symbol {o : Result} {k : State → State}
    (h : phaseRule d (beginTick s) = andThen o fun t => .next (k t)) :
    step s = andThen o fun t => .next (recordTrace (endSample d (k t))) := by
  rw [step_sample hsym hprimed hl hp, h, andThen_assoc]
  rfl

end Sample

/-- The Eos tick (R144): the close, the premature-end test, the end. -/
theorem step_eos {s : State} (hsym : s.nextSymbol = .eos) (hl : s.cfg.legal = true) :
    step s = andThen (eosClose (beginTick s)) fun t =>
      .next (recordTrace (finishStream (prematureEnd (midBit s) t))) := by
  have htick : eosTick (beginTick s) = andThen (eosClose (beginTick s)) fun t =>
      .next (finishStream (prematureEnd (midBit s) t)) := if_neg (by simp [hl])
  rw [step, tick, hsym, tickSymbol, htick, andThen_assoc]
  rfl

/-! ### The phase rules -/

section PhaseEquations

variable {s : State} {d : Level}

theorem triggerOverdue_iff :
    triggerOverdue s = true ↔ s.state = .awaitingTrigger ∧ s.cfg.trigWait < s.pos - s.waitStart := by
  simp [triggerOverdue]

/-- R73: the falling edge is tested before the time-out. -/
theorem phaseRule_waitFall_fall (hphase : s.phase = .waitFall) (hfall : fallEdge s.prev d = true) :
    phaseRule d s = .next (openPulse s) := by
  simp [phaseRule, hphase, waitFallRule, hfall]

theorem phaseRule_waitFall_quiet (hphase : s.phase = .waitFall) (hfall : ¬fallEdge s.prev d = true)
    (hwait : ¬triggerOverdue s = true) : phaseRule d s = .next s := by
  simp [phaseRule, hphase, waitFallRule, hfall, hwait]

/-- R74, the trigger branch: `rise_pos` is set before the symbol runs. -/
theorem phaseRule_inLow_trigger (hphase : s.phase = .inLow) (hrise : riseEdge s.prev d = true)
    (htrig : isTrigger s.state (units s.cfg (s.pos - s.fallPos)) = true) :
    phaseRule d s = andThen (exec .trigger { s with risePos := s.pos }) fun t => .next (closePulse t) := by
  simp [phaseRule, hphase, inLowRule, hrise, htrig]

/-- R74, the other branch. -/
theorem phaseRule_inLow_rise (hphase : s.phase = .inLow) (hrise : riseEdge s.prev d = true)
    (htrig : ¬isTrigger s.state (units s.cfg (s.pos - s.fallPos)) = true) :
    phaseRule d s = .next { s with risePos := s.pos, phase := .inHigh } := by
  simp [phaseRule, hphase, inLowRule, hrise, htrig]

theorem phaseRule_inLow_quiet (hphase : s.phase = .inLow) (hrise : ¬riseEdge s.prev d = true) :
    phaseRule d s = .next s := by
  simp [phaseRule, hphase, inLowRule, hrise]

/-- R75 case 1. -/
theorem phaseRule_inHigh_idle (hphase : s.phase = .inHigh) (hidle : isIdle s.cfg s.highSamples = true) :
    phaseRule d s = andThen (exec (classifyIdle s.lowUnits) s) fun t => .next (afterIdleClose d s.prev t) := by
  simp [phaseRule, hphase, inHighRule, hidle]

/-- R75 case 2. -/
theorem phaseRule_inHigh_fall (hphase : s.phase = .inHigh) (hidle : isIdle s.cfg s.highSamples = false)
    (hfall : fallEdge s.prev d = true) :
    phaseRule d s = andThen (exec (classifyStrict s.lowUnits s.highUnits) s) fun t => .next (openPulse t) := by
  simp [phaseRule, hphase, inHighRule, hidle, hfall]

theorem phaseRule_inHigh_quiet (hphase : s.phase = .inHigh) (hidle : isIdle s.cfg s.highSamples = false)
    (hfall : ¬fallEdge s.prev d = true) : phaseRule d s = .next s := by
  simp [phaseRule, hphase, inHighRule, hidle, hfall]

end PhaseEquations

/-- R75 case 1 with R92: `IdleEv` does not look at the edge, and the edge alone decides the next phase. -/
theorem afterIdleClose_eq (d prev : Level) (t : State) :
    afterIdleClose d prev t = { t with
      cnt := if t.state = .seekingStart then 0 else t.cnt
      state := if t.state = .seekingStart then .idle else t.state
      fallPos := if prev = .high ∧ d = .low then t.pos else t.fallPos
      phase := if prev = .high ∧ d = .low then .inLow else .waitFall } := by
  unfold afterIdleClose
  split <;> rename_i hfall <;> rw [fallEdge_iff] at hfall
  · rw [if_pos hfall, if_pos hfall]
    rfl
  · rw [if_neg hfall, if_neg hfall]
    rfl

/-! ### The end of stream -/

/-- A complete pulse runs as its bit and is then no longer mid-bit (R76). -/
theorem eosClose_complete {s : State} {i : Instr} (hphase : s.phase = .inHigh)
    (hi : classifyEos s.lowUnits s.highUnits = some i) : eosClose s = exec i s ∧ midBit s = false := by
  simp [eosClose, eosSymbol, midBit, hphase, hi]

/-- With no pulse open, or an incomplete one, the end of stream runs no symbol (R76). -/
theorem eosClose_incomplete {s : State} {mid : Bool}
    (h : s.phase = .waitFall ∧ mid = false ∨ s.phase = .inLow ∧ mid = true ∨
      s.phase = .inHigh ∧ ¬(s.lowUnits = 1 ∧ 4 ≤ s.highUnits) ∧ ¬(s.lowUnits = 4 ∧ 1 ≤ s.highUnits) ∧ mid = true) :
    eosClose s = .next s ∧ midBit s = mid := by
  rcases h with ⟨hphase, rfl⟩ | ⟨hphase, rfl⟩ | ⟨hphase, h0, h1, rfl⟩
  · simp [eosClose, eosSymbol, midBit, hphase]
  · simp [eosClose, eosSymbol, midBit, hphase]
  · simp [eosClose, eosSymbol, midBit, hphase, classifyEos_eq_none h0 h1]

/-- R152: the test and the entry, with the truncated unit's start written out. -/
theorem prematureEnd_eq (mid : Bool) (s : State) :
    prematureEnd mid s = if mid = true ∨ s.cnt ≠ 0 ∨ s.state.txnOpen = true then
      raiseError .prematureEndOfStream (if s.cnt ≠ 0 then s.byteStart else if mid = true then s.fallPos else s.pos)
        s.pos 0 s
      else s := by
  have hcnt : 0 < s.cnt.val ↔ s.cnt ≠ 0 := Fin.pos_iff_ne_zero
  simp only [prematureEnd, truncatedStart, hcnt]

end Sys2Proof.Machine
end

section
/-! SUPPORT. The statements about the edge-to-bit classifier, settled. -/

namespace Sys2Proof.Machine

/-- Settles O10: for `k >= 1` the bounds are those of the predecessor's comparison form. -/
theorem unitsIsTheNearestCount : Obligations.UnitsIsTheNearestCount := by
  intro c d hl
  obtain ⟨hS, -⟩ := legal_iff.1 hl
  refine ⟨rfl, fun k hk => ?_, units_eq_zero_iff hS d⟩
  obtain ⟨n, rfl⟩ := Nat.exists_eq_add_of_le' hk
  exact units_eq_succ_iff hS n d

/-- Settles O43: the close runs nothing, so the premature-end test sees the registers as they were. -/
theorem eosWithoutCompletePulse : Obligations.EosWithoutCompletePulse := by
  intro s mid hsym hl hopen
  obtain ⟨hclose, hmid⟩ : eosClose (beginTick s) = .next (beginTick s) ∧ midBit s = mid := eosClose_incomplete hopen
  rw [step_eos hsym hl, hclose, andThen_next, hmid]
  refine ⟨_, rfl, ?_⟩
  by_cases h : mid = true ∨ s.cnt ≠ 0 ∨ s.state.txnOpen = true
  · rw [(prematureEnd_eq mid (beginTick s)).trans (if_pos h), if_pos h, if_pos h]
    exact ⟨rfl, rfl⟩
  · rw [(prematureEnd_eq mid (beginTick s)).trans (if_neg h), if_neg h, if_neg h]
    exact ⟨rfl, rfl⟩

/-- Settles O7. -/
theorem firstSampleOnlyPrimes : Obligations.FirstSampleOnlyPrimes :=
  fun _ _ => step_firstSample

/-- Settles O11. -/
theorem idleThresholdInSamples : Obligations.IdleThresholdInSamples := by
  intro c h hl
  obtain ⟨-, hB, -⟩ := legal_iff.1 hl
  exact ⟨isIdle_iff, isIdle_iff_threshold hB h⟩

/-- Settles O12. -/
theorem pulseClassification : Obligations.PulseClassification := by
  intro l h
  obtain ⟨hbit0, hbit1, hbad⟩ := classifyStrict_eq_iff l h
  exact ⟨hbit0, hbit1, hbad, classifyIdle_eq_iff l⟩

/-- Settles O13. -/
theorem fallingEdgeOpensPulse : Obligations.FallingEdgeOpensPulse := by
  intro s hsym hprimed hprev hl hp hphase
  have hrule := phaseRule_waitFall_fall (s := beginTick s) hphase (fallEdge_iff.2 ⟨hprev, rfl⟩)
  exact step_sample_silent hsym hprimed hl hp hrule rfl

/-- Settles O14. -/
theorem risingEdgeGoesOn : Obligations.RisingEdgeGoesOn := by
  intro s hsym hprimed hprev hl hp hphase htrig
  have hrule := phaseRule_inLow_rise (s := beginTick s) hphase (riseEdge_iff.2 ⟨hprev, rfl⟩) (mt isTrigger_iff.1 htrig)
  exact step_sample_silent hsym hprimed hl hp hrule rfl

/-- Settles O15. -/
theorem stepRunsEdgeClosedPulse : Obligations.StepRunsEdgeClosedPulse := by
  intro s hsym hprimed hprev hl hp hphase hidle
  have hrule := phaseRule_inHigh_fall (s := beginTick s) hphase hidle (fallEdge_iff.2 ⟨hprev, rfl⟩)
  exact step_sample_symbol hsym hprimed hl hp hrule

/-- Settles O16. -/
theorem stepRunsIdleClosedPulse : Obligations.StepRunsIdleClosedPulse := by
  intro s d hsym hprimed _ hl hp hphase hidle
  have hrule := phaseRule_inHigh_idle (d := d) (s := beginTick s) hphase hidle
  simp only [afterIdleClose_eq] at hrule
  exact step_sample_symbol hsym hprimed hl hp hrule

/-- Settles O17. -/
theorem stepRunsTrigger : Obligations.StepRunsTrigger := by
  intro s hsym hprimed hprev hl hp hphase hstate hunits
  have hrule := phaseRule_inLow_trigger (s := beginTick s) hphase (riseEdge_iff.2 ⟨hprev, rfl⟩)
    (isTrigger_iff.2 ⟨hstate, hunits⟩)
  exact step_sample_symbol hsym hprimed hl hp hrule

/-- Settles O18: once the pulse has run, only a byte or a transaction can still be open. -/
theorem stepRunsPulseAtEos : Obligations.StepRunsPulseAtEos := by
  intro s i hsym hl hphase hi
  obtain ⟨hclose, hmid⟩ : eosClose (beginTick s) = exec i (beginTick s) ∧ midBit s = false :=
    eosClose_complete hphase (classifyEos_eq_some hi)
  rw [step_eos hsym hl, hclose, hmid]
  congr 1
  funext t
  simp only [prematureEnd_eq, Bool.false_eq_true, false_or, if_false]
  split <;> rfl

/-- Settles O59, by the phase. -/
theorem quietSampleChangesNothing : Obligations.QuietSampleChangesNothing := by
  intro s d hsym hprimed hl hp hquiet
  have hrule : phaseRule d (beginTick s) = .next (beginTick s) := by
    rcases hquiet with ⟨hphase, hfall, hwait⟩ | ⟨hphase, hrise⟩ | ⟨hphase, hidle, hfall⟩
    · exact phaseRule_waitFall_quiet hphase (mt fallEdge_iff.1 hfall) (mt triggerOverdue_iff.1 hwait)
    · exact phaseRule_inLow_quiet hphase (mt riseEdge_iff.1 hrise)
    · exact phaseRule_inHigh_quiet hphase hidle (mt fallEdge_iff.1 hfall)
  exact step_sample_silent hsym hprimed hl hp hrule rfl

end Sys2Proof.Machine
end

section
/-! SUPPORT. What a bit of each kind does from any state (R86 to R89): the state its CMD bit leads to, its data
bits, and the frame that its framing bit runs. -/

namespace Sys2Proof.Machine

/-- Where the first bit of a MASTER byte leads (R86, R107): the early transition is never taken out of IDLE. -/
theorem afterCmd_leaveIdle (st : TState) (v : Bool) : afterCmd (leaveIdle st) v =
    if st = .idle then .seekingStart
    else if v = true ∧ (st = .writingData ∨ st = .awaitingTrigger) then .seekingEnd
    else st := by
  simp only [and_comm (a := v = true)]
  by_cases h : st = .idle
  · subst h
    rfl
  · rw [leaveIdle_eq_self h, if_neg h]
    rfl

/-- A data bit of either shape goes into `sh` (R86, R88). -/
theorem exec_dataBit {s : State} {v : Bool} (hlo : firstData s.state.shape ≤ s.cnt.val)
    (hhi : s.cnt.val < firstData s.state.shape + 8) (hv : ¬(s.state = .awaitingTrigger ∧ v = false)) :
    exec (bitInstr v) s = .next (takeData v (arriveBit s)) := by
  have hshape : (arriveBit s).state.shape = s.state.shape := shape_leaveIdle s.state
  refine (exec_bit hv).trans (assembleBit_data v ?_ ?_)
  · rw [hshape]
    exact hlo
  · rw [hshape]
    exact hhi

theorem frameWire_of_master {s : State} (v : Bool) (h : s.state.shape = .master) :
    s.frameWire v = .master (masterWord s.cmd s.sh v) :=
  frameWith_master s.sh v h

theorem frameWire_of_slave {s : State} (v : Bool) (h : s.state.shape = .slave) :
    s.frameWire v = .slave (slaveWord s.sh v) :=
  frameWith_slave s.sh v h

/-- In AWAITING_TRIGGER no frame of either shape completes (R56, R110). -/
theorem state_ne_awaitingTrigger_of_frameWire {s : State} {v : Bool} {i : Instr}
    (h : decode s.state (s.frameWire v) = .ok i) : s.state ≠ .awaitingTrigger := by
  intro hst
  have hshape : s.state.shape = .master := by rw [hst]; rfl
  rw [frameWire_of_master v hshape] at h
  exact (state_ne_of_decode_master h).2 hst

/-- The framing bit runs the frame it completes (R86, R89, R100). -/
theorem exec_framingBit {s : State} {v : Bool} {i : Instr} (hidle : s.state ≠ .idle)
    (hc : s.cnt.val = firstData s.state.shape + 8) (hdec : decode s.state (s.frameWire v) = .ok i) :
    exec (bitInstr v) s = exec i { s with out := s.out ++ [⟨.bitsData v, s.fallPos, s.pos⟩], cnt := 0 } := by
  have hway : ByteUnderWay s :=
    { leftIdle := hidle
      noWait := state_ne_awaitingTrigger_of_frameWire hdec
      startNoted := fun hz => by
        rw [hz] at hc
        exact absurd hc (Nat.succ_ne_zero _).symm }
  calc exec (bitInstr v) s
    _ = assembleBit v s := hway.exec_bit v
    _ = takeFraming v s := assembleBit_framing v hc
    _ = _ := takeFraming_eq_exec hdec

end Sys2Proof.Machine
end

section
/-! SUPPORT. The statements about the byte assembler, settled. -/

namespace Sys2Proof.Machine

/-- Settles O23: at a byte boundary the bit's first step notes the start, and the CMD bit decides the state. -/
theorem cmdBitResult : Obligations.CmdBitResult := by
  intro s v hc hs hv
  rw [exec_cmdBit hs hc hv]
  simp only [takeCmd, arriveBit, afterCmd_leaveIdle, if_pos hc]

/-- Settles O24: in either shape the count lies among the byte's eight data bits. -/
theorem dataBitResult : Obligations.DataBitResult := by
  intro s v hcnt hv
  obtain ⟨hlo, hhi⟩ : firstData s.state.shape ≤ s.cnt.val ∧ s.cnt.val < firstData s.state.shape + 8 := by
    rcases hcnt with ⟨hs, hlo, hhi⟩ | ⟨hs, hhi⟩
    · rw [hs]
      exact ⟨hlo, Nat.lt_succ_of_le hhi⟩
    · rw [hs]
      exact ⟨Nat.zero_le _, Nat.lt_succ_of_le hhi⟩
  exact exec_dataBit hlo hhi hv

/-- Settles O25: in either shape the count is the framing bit's and the word is the one that this bit completes. -/
theorem framingBitRunsTheFrame : Obligations.FramingBitRunsTheFrame := by
  rintro s v i hidle (⟨hs, hc, hdec⟩ | ⟨hs, hc, hdec⟩)
  · exact exec_framingBit hidle (by rw [hs, hc]; rfl) (by rw [frameWire_of_master v hs]; exact hdec)
  · exact exec_framingBit hidle (by rw [hs, hc]; rfl) (by rw [frameWire_of_slave v hs]; exact hdec)

/-- Settles O27: a transaction is open or not, and that decides what the entry adds. -/
theorem badPulseResult : Obligations.BadPulseResult := by
  constructor
  · intro s hopen
    rw [exec_badPulse, hopen]
    rfl
  · intro s hopen
    rw [exec_badPulse, hopen]
    rfl

/-- Settles O28, by the test that both fields share. -/
theorem idleEventResult : Obligations.IdleEventResult := by
  intro s
  constructor
  · intro h
    simp only [idleEvent, if_pos h]
  · intro h
    simp only [idleEvent, if_neg h]

end Sys2Proof.Machine
end

section
/-! SUPPORT. What the frame symbols answer (R89, R103 to R112): each is one test of the state and then one next state,
whose records begin with the Bytes-row record. -/

namespace Sys2Proof.Machine

/-! ### The test of the state -/

theorem inState_of_eq {st : TState} {s : State} (h : s.state = st) (k : State) : inState st s k = .next k := if_pos h

theorem inState_of_ne {st : TState} {s : State} (h : s.state ≠ st) (k : State) :
    inState st s k = .refused .outOfContext := if_neg h

/-- The state that a frame symbol tests for is the one of its row in the table (R56, R61). -/
theorem exec_frame_eq_inState {i : Instr} (hf : i.isFrame = true) (s : State) :
    ∃ st k, i.legalIn s.state = (s.state == st) ∧ exec i s = inState st s k := by
  cases i with
  | bit0 | bit1 | trigger | badPulse => cases hf
  | start | skip | addr | ctlInAddr | rwidWr | rwidRd | ctlInRwid | wdata | endMark | badEnd | rdata =>
    exact ⟨_, _, rfl, rfl⟩

theorem completes_exec_frame {i : Instr} {s : State} (hf : i.isFrame = true) (hlegal : i.legalIn s.state = true) :
    Completes (exec i s) := by
  obtain ⟨st, k, hst, he⟩ := exec_frame_eq_inState hf s
  exact ⟨k, he.trans (inState_of_eq (eq_of_beq (hst.symm.trans hlegal)) k)⟩

theorem exec_frame_refused {i : Instr} {s : State} (hf : i.isFrame = true) (hlegal : i.legalIn s.state = false) :
    exec i s = .refused .outOfContext := by
  obtain ⟨st, k, hst, he⟩ := exec_frame_eq_inState hf s
  exact he.trans (inState_of_ne (beq_eq_false_iff_ne.1 (hst.symm.trans hlegal)) k)

/-! ### Whose registers a symbol writes (R100) -/

/-- Only the bits write the assembler's registers. -/
theorem assembler_same_of_exec {i : Instr} {s t : State} (h0 : i ≠ .bit0) (h1 : i ≠ .bit1) (h : exec i s = .next t) :
    t.cmd = s.cmd ∧ t.sh = s.sh ∧ t.byteStart = s.byteStart := by
  cases i with
  | bit0 => exact absurd rfl h0
  | bit1 => exact absurd rfl h1
  | trigger =>
    obtain ⟨-, rfl⟩ := exec_trigger_eq_next_iff.1 h
    exact ⟨rfl, rfl, rfl⟩
  | badPulse =>
    rw [exec_badPulse] at h
    cases h
    exact ⟨rfl, rfl, rfl⟩
  | start | skip | addr | ctlInAddr | rwidWr | rwidRd | ctlInRwid | wdata | endMark | badEnd | rdata =>
    obtain ⟨-, rfl⟩ := inState_eq_next_iff.1 h
    exact ⟨rfl, rfl, rfl⟩

/-- The transaction registers (R19 to R22) are the same in both states. -/
def SameTransaction (s t : State) : Prop :=
  t.addr = s.addr ∧ t.addrCnt = s.addrCnt ∧ t.addrStart = s.addrStart ∧ t.rwId = s.rwId ∧
    t.rwidValid = s.rwidValid ∧ t.dir = s.dir ∧ t.dataCnt = s.dataCnt ∧ t.txnStart = s.txnStart ∧
    t.waitStart = s.waitStart

/-- A state that differs only in what pulses write. For a state that an operation writes out, the hypothesis is
`rfl`. -/
theorem sameTransaction_of_eq {s t : State}
    (h : t = { s with
      state := t.state, cnt := t.cnt, cmd := t.cmd, sh := t.sh, byteStart := t.byteStart, out := t.out }) :
    SameTransaction s t := by
  rw [h]
  exact ⟨rfl, rfl, rfl, rfl, rfl, rfl, rfl, rfl, rfl⟩

/-- A bit before the framing bit is the CMD bit or a data bit. -/
theorem sameTransaction_exec_bit {v : Bool} {s t : State} (hc : s.cnt.val < firstData s.state.shape + 8)
    (h : exec (bitInstr v) s = .next t) : SameTransaction s t := by
  rw [← shape_leaveIdle] at hc
  rcases assembleBit_eq_next (exec_bit_eq_next h).1 with ⟨-, -, rfl⟩ | ⟨-, rfl⟩ | ⟨⟨hs, h9⟩ | ⟨hs, h8⟩, -⟩
  · exact sameTransaction_of_eq rfl
  · exact sameTransaction_of_eq rfl
  · rw [arriveBit_state] at hs
    rw [hs] at hc
    exact absurd h9 (Nat.ne_of_lt hc)
  · rw [arriveBit_state] at hs
    rw [hs] at hc
    exact absurd h8 (Nat.not_le.2 hc)

theorem sameTransaction_exec_pulse {i : Instr} {s t : State} (hf : i.isFrame = false)
    (hc : i = .bit0 ∨ i = .bit1 → s.cnt.val < firstData s.state.shape + 8) (h : exec i s = .next t) :
    SameTransaction s t := by
  cases i with
  | bit0 => exact sameTransaction_exec_bit (v := false) (hc (.inl rfl)) h
  | bit1 => exact sameTransaction_exec_bit (v := true) (hc (.inr rfl)) h
  | trigger =>
    obtain ⟨-, rfl⟩ := exec_trigger_eq_next_iff.1 h
    exact sameTransaction_of_eq rfl
  | badPulse =>
    rw [exec_badPulse] at h
    cases h
    exact sameTransaction_of_eq rfl
  | start | skip | addr | ctlInAddr | rwidWr | rwidRd | ctlInRwid | wdata | endMark | badEnd | rdata => cases hf

/-! ### A framing bit without a frame -/

theorem takeFraming_eq_refused {v : Bool} {s : State} {e : DecodeError}
    (h : decode s.state (s.frameWire v) = .error e) : takeFraming v s = .refused .unreachableFrame := by
  simp only [takeFraming, deliverFrame, h]

/-- Inside a byte and out of IDLE a bit's first step does nothing (R86). -/
theorem arriveBit_eq_self {s : State} (hidle : s.state ≠ .idle) (hc : s.cnt ≠ 0) : arriveBit s = s := by
  simp only [arriveBit, leaveIdle_eq_self hidle, if_neg hc]

/-! ### The records -/

/-- FRAMING_SENTINEL is 1, so `framing_ok` is the framing bit itself (R51, R89). -/
theorem byteRecord_eq (value : Byte) (hasCmd cmd f : Bool) (s : State) :
    byteRecord value hasCmd cmd f s = ⟨.byte value hasCmd cmd f, s.byteStart, s.pos⟩ := by
  cases f <;> rfl

/-- A byte that takes an error inside a transaction: the byte's record, then those of the entry (R89, R157). -/
theorem raiseError_after_byte {s : State} (k : ErrorKind) (d : Byte) (f : Bool) (hopen : s.state.txnOpen = true) :
    raiseError k s.byteStart s.pos d (emit (byteRecord d true true f s) s) = { s with
      out := s.out ++ [⟨.byte d true true f, s.byteStart, s.pos⟩, ⟨.masterError k d, s.byteStart, s.pos⟩,
        txnRecord (.error k) s.pos s]
      cnt := 0
      state := .seekingStart } := by
  simp [raiseError, errorRecords, emit, hopen, txnRecord, byteRecord_eq]

/-! ### The framing bit in the records -/

/-- Two states that differ in the `framing_ok` fields of their records alone. -/
def DifferInFraming (t u : State) : Prop :=
  { t with out := [] } = { u with out := [] } ∧ t.out.map Record.forgetFraming = u.out.map Record.forgetFraming

/-- Two states that came about alike, but for the framing bit of one Bytes-row record. -/
theorem differInFraming_of_byteRecord {s t u : State} {l rest : List Record} {value : Byte} {hasCmd cmd f g : Bool}
    (hregs : { t with out := [] } = { u with out := [] }) (ht : t.out = l ++ byteRecord value hasCmd cmd f s :: rest)
    (hu : u.out = l ++ byteRecord value hasCmd cmd g s :: rest) : DifferInFraming t u := by
  refine ⟨hregs, ?_⟩
  rw [ht, hu, List.map_append, List.map_append]
  rfl

/-- The framing bit does not steer `o` and `o'` apart: refused alike, or next states that differ in `framing_ok`. -/
def AlikeButFraming (o o' : Result) : Prop :=
  (∀ t, o = .next t → ∃ u, o' = .next u ∧ DifferInFraming t u) ∧ (∀ r, o = .refused r → o' = .refused r)

theorem alikeButFraming_refl (o : Result) : AlikeButFraming o o :=
  ⟨fun t h => ⟨t, h, rfl, rfl⟩, fun _ h => h⟩

/-- The test of the state does not see the framing bit. -/
theorem alikeButFraming_inState {st : TState} {s k k' : State} (h : DifferInFraming k k') :
    AlikeButFraming (inState st s k) (inState st s k') := by
  constructor
  · intro t ht
    obtain ⟨hst, rfl⟩ := inState_eq_next_iff.1 ht
    exact ⟨k', inState_of_eq hst k', h⟩
  · intro r hr
    exact inState_eq_refused_iff.2 (inState_eq_refused_iff.1 hr)

end Sys2Proof.Machine
end

section
/-! SUPPORT. Completion (R110, R159): with the byte assembler's invariants every frame that completes has a row, a pulse
that closes is no bit 0 in AWAITING_TRIGGER, and so each phase rule and the end-of-stream close answer a next state. -/

namespace Sys2Proof.Machine

theorem completes_andThen_next {o : Result} (h : Completes o) (k : State → State) :
    Completes (andThen o fun t => .next (k t)) := by
  obtain ⟨t, rfl⟩ := h
  exact ⟨k t, rfl⟩

/-! ### Bits -/

/-- The count never passes the framing bit's (I-2, R16). -/
theorem ByteInv.cnt_le {st : TState} {cnt : Fin 10} {cmd : Bool} (h : ByteInv st cnt cmd) :
    cnt.val ≤ firstData st.shape + 8 := by
  cases st with
  | readingData => exact h.slaveCnt rfl
  | idle | seekingStart | readingAddress | readingRwId | writingData | awaitingTrigger | seekingEnd =>
    exact Nat.le_of_lt_succ cnt.isLt

/-- The cases of R110 without a row are dead: at the framing bit the state has left IDLE and AWAITING_TRIGGER, and the
CMD bit agrees with it (I-3 to I-6). -/
theorem ByteInv.exists_decodeMaster {st : TState} {cnt : Fin 10} {cmd : Bool} (h : ByteInv st cnt cmd)
    (hs : st.shape = .master) (hc : cnt.val = 9) (d : Byte) (f : Bool) :
    ∃ i, decodeMaster st (masterWord cmd d f) = .ok i := by
  cases st with
  | readingData => cases hs
  | idle => simp [h.idleCnt rfl] at hc
  | awaitingTrigger => simp [h.awaitCnt rfl] at hc
  | seekingStart =>
    rw [decodeMaster_seekingStart]
    split <;> exact ⟨_, rfl⟩
  | readingAddress =>
    rw [decodeMaster_readingAddress]
    split <;> exact ⟨_, rfl⟩
  | readingRwId =>
    rw [decodeMaster_readingRwId]
    split
    · exact ⟨_, rfl⟩
    · split <;> exact ⟨_, rfl⟩
  | writingData =>
    rw [decodeMaster_writingData, h.writeCmd rfl (by omega)]
    exact ⟨_, rfl⟩
  | seekingEnd =>
    obtain ⟨-, hcmd⟩ := h.endCmd rfl
    rw [decodeMaster_seekingEnd, hcmd, if_pos rfl]
    split <;> exact ⟨_, rfl⟩

/-- R26. -/
theorem eq_readingData_of_slave {st : TState} (h : st.shape = .slave) : st = .readingData := by
  cases st with
  | readingData => rfl
  | idle | seekingStart | readingAddress | readingRwId | writingData | awaitingTrigger | seekingEnd => cases h

theorem exists_decode_frameWire {s : State} (h : ByteInv s.state s.cnt s.cmd)
    (hc : s.cnt.val = firstData s.state.shape + 8) (v : Bool) : ∃ i, decode s.state (s.frameWire v) = .ok i := by
  cases hs : s.state.shape with
  | master =>
    rw [hs] at hc
    rw [frameWire_of_master v hs]
    exact h.exists_decodeMaster hs hc s.sh v
  | slave =>
    rw [frameWire_of_slave v hs, eq_readingData_of_slave hs]
    exact ⟨_, decodeSlave_readingData s.sh v⟩

theorem ne_idle_of_framing {s : State} (h : ByteInv s.state s.cnt s.cmd)
    (hc : s.cnt.val = firstData s.state.shape + 8) : s.state ≠ .idle := by
  intro hst
  rw [h.idleCnt hst] at hc
  exact absurd hc.symm (Nat.succ_ne_zero _)

theorem completes_exec_bit {s : State} {v : Bool} (hb : ByteInv s.state s.cnt s.cmd)
    (hv : ¬(s.state = .awaitingTrigger ∧ v = false)) : Completes (exec (bitInstr v) s) := by
  rcases Nat.lt_or_ge s.cnt.val (firstData s.state.shape) with hcmd | hlo
  · have hs : s.state.shape = .master := by
      cases hs : s.state.shape with
      | master => rfl
      | slave => simp [hs, firstData] at hcmd
    have hc : s.cnt = 0 := Fin.ext (by simpa [hs, firstData] using hcmd)
    exact ⟨_, exec_cmdBit hs hc hv⟩
  · rcases Nat.lt_or_eq_of_le hb.cnt_le with hhi | hc
    · exact ⟨_, exec_dataBit hlo hhi hv⟩
    · obtain ⟨i, hdec⟩ := exists_decode_frameWire hb hc v
      obtain ⟨-, hlegal, -⟩ := decodedSymbolEncodesBack _ _ _ hdec
      rw [exec_framingBit (ne_idle_of_framing hb hc) hc hdec]
      exact completes_exec_frame (isFrame_of_frameWire hdec) hlegal

/-! ### Pulses and ticks -/

theorem completes_waitFallRule (d : Level) (s : State) : Completes (waitFallRule d s) := by
  unfold waitFallRule
  split
  · exact ⟨_, rfl⟩
  · split <;> exact ⟨_, rfl⟩

theorem completes_inLowRule (d : Level) (s : State) : Completes (inLowRule d s) := by
  unfold inLowRule
  split
  · split
    · rename_i htrig
      obtain ⟨hst, -⟩ := isTrigger_iff.1 htrig
      refine completes_andThen_next ?_ _
      exact ⟨_, exec_trigger_eq_next_iff.2 ⟨hst, rfl⟩⟩
    · exact ⟨_, rfl⟩
  · exact ⟨_, rfl⟩

section
variable {s : State} (hi : Inv s)
include hi

/-- The symbol of a pulse that closes: bit 0 has a 1-unit LOW, which in AWAITING_TRIGGER was a trigger (R74, R110). -/
theorem completes_exec_closedPulse {i : Instr} (hphase : s.phase = .inHigh)
    (h : (i = bitInstr false ∧ s.lowUnits = 1) ∨ i = bitInstr true ∨ i = .badPulse) : Completes (exec i s) := by
  have hb := (inv_iff.1 hi).1.byte
  rcases h with ⟨rfl, hlow⟩ | rfl | rfl
  · exact completes_exec_bit hb fun hw => hi.noLateTrigger hw.1 hphase hlow
  · exact completes_exec_bit hb nofun
  · exact ⟨_, exec_badPulse s⟩

theorem completes_exec_classifyIdle (hphase : s.phase = .inHigh) : Completes (exec (classifyIdle s.lowUnits) s) := by
  refine completes_exec_closedPulse hi hphase ?_
  rcases classifyIdle_cases s.lowUnits with h | ⟨h, -⟩ | h
  · exact .inl h
  · exact .inr (.inl h)
  · exact .inr (.inr h)

theorem completes_exec_classifyStrict (hphase : s.phase = .inHigh) :
    Completes (exec (classifyStrict s.lowUnits s.highUnits) s) := by
  refine completes_exec_closedPulse hi hphase ?_
  rcases classifyStrict_cases s.lowUnits s.highUnits with ⟨h, hlow, -⟩ | ⟨h, -⟩ | h
  · exact .inl ⟨h, hlow⟩
  · exact .inr (.inl h)
  · exact .inr (.inr h)

theorem completes_inHighRule (d : Level) (hphase : s.phase = .inHigh) : Completes (inHighRule d s) := by
  unfold inHighRule
  split
  · exact completes_andThen_next (completes_exec_classifyIdle hi hphase) _
  · split
    · exact completes_andThen_next (completes_exec_classifyStrict hi hphase) _
    · exact ⟨_, rfl⟩

theorem completes_phaseRule (d : Level) : Completes (phaseRule d s) := by
  unfold phaseRule
  split
  · exact completes_waitFallRule d s
  · exact completes_inLowRule d s
  · exact completes_inHighRule hi d ‹_›

theorem completes_eosClose : Completes (eosClose s) := by
  unfold eosClose
  split
  · rename_i i hsym
    unfold eosSymbol at hsym
    split at hsym
    · refine completes_exec_closedPulse hi ‹_› ?_
      rcases classifyEos_cases hsym with ⟨h, hlow, -⟩ | ⟨h, -⟩
      · exact .inl ⟨h, hlow⟩
      · exact .inr (.inl h)
    · cases hsym
    · cases hsym
  · exact ⟨_, rfl⟩

end

end Sys2Proof.Machine
end

section
/-! SUPPORT. The balance of START and TXN records (R101, R114, R159): what each operation adds to the ports, against
what it does to the transaction. -/

namespace Sys2Proof.Machine

/-- How many transactions are open: at most one (R101). -/
def openCount (st : TState) : Nat := if st.txnOpen then 1 else 0

/-- `t` has records more on the ports than `s`, and they balance what became of the open transaction: each START opens
one, each TXN closes one. -/
def Balances (s t : State) : Prop :=
  ∃ records, t.out = s.out ++ records ∧
    records.countP Record.isStart + openCount s.state = records.countP Record.isTxn + openCount t.state

theorem Balances.trans {s t u : State} (h : Balances s t) (k : Balances t u) : Balances s u := by
  obtain ⟨a, hta, ha⟩ := h
  obtain ⟨b, hub, hb⟩ := k
  refine ⟨a ++ b, by rw [hub, hta, List.append_assoc], ?_⟩
  rw [List.countP_append, List.countP_append]
  omega

/-- Records of neither kind, and a move of `state` within a transaction or outside one. -/
theorem balances_of_uncounted {s t : State} {records : List Record} (hout : t.out = s.out ++ records)
    (hstart : records.countP Record.isStart = 0) (htxn : records.countP Record.isTxn = 0)
    (hopen : openCount t.state = openCount s.state) : Balances s t :=
  ⟨records, hout, by rw [hstart, htxn, hopen]⟩

theorem balances_of_silent {s t : State} (hout : t.out = s.out) (hopen : openCount t.state = openCount s.state) :
    Balances s t :=
  balances_of_uncounted (hout.trans (List.append_nil _).symm) rfl rfl hopen

theorem balances_emit {r : Record} (hstart : r.isStart = false) (htxn : r.isTxn = false) (s : State) :
    Balances s (emit r s) :=
  balances_of_uncounted (records := [r]) rfl (by simp [hstart]) (by simp [htxn]) rfl

/-! ### Errors -/

theorem countP_isStart_errorRecords (k : ErrorKind) (a b : Pos) (v : Byte) (s : State) :
    (errorRecords k a b v s).countP Record.isStart = 0 := by
  unfold errorRecords
  split <;> rfl

/-- The error entry closes the transaction that is open, if one is (R114, R157). -/
theorem countP_isTxn_errorRecords (k : ErrorKind) (a b : Pos) (v : Byte) (s : State) :
    (errorRecords k a b v s).countP Record.isTxn = openCount s.state := by
  unfold errorRecords openCount
  split <;> rfl

theorem balances_raiseError (k : ErrorKind) (a b : Pos) (v : Byte) (s : State) : Balances s (raiseError k a b v s) :=
  ⟨errorRecords k a b v s, rfl, by rw [countP_isStart_errorRecords, countP_isTxn_errorRecords, Nat.zero_add]; rfl⟩

/-! ### Symbols -/

theorem openCount_leaveIdle (st : TState) : openCount (leaveIdle st) = openCount st := by cases st <;> rfl

/-- The early transition stays inside the transaction (R107). -/
theorem openCount_afterCmd (st : TState) (v : Bool) : openCount (afterCmd st v) = openCount st := by
  unfold afterCmd
  split
  · rename_i h
    rcases h.1 with rfl | rfl <;> rfl
  · rfl

/-- START opens, END and the errors close, the other frames do neither (R103 to R112). -/
theorem balances_exec_frame {i : Instr} {s t : State} (hf : i.isFrame = true) (h : exec i s = .next t) :
    Balances s t := by
  cases i with
  | bit0 | bit1 | trigger | badPulse => cases hf
  | start | rwidWr | rwidRd | wdata | endMark | rdata =>
    obtain ⟨hs, rfl⟩ := inState_eq_next_iff.1 h
    refine ⟨_, rfl, ?_⟩
    rw [hs]
    rfl
  | skip c d f =>
    obtain ⟨-, rfl⟩ := inState_eq_next_iff.1 h
    exact balances_emit rfl rfl s
  | addr a f =>
    obtain ⟨hs, rfl⟩ := inState_eq_next_iff.1 h
    refine ⟨_, rfl, ?_⟩
    rw [hs]
    dsimp only
    split <;> rfl
  | ctlInAddr | ctlInRwid | badEnd =>
    obtain ⟨-, rfl⟩ := inState_eq_next_iff.1 h
    refine .trans ?_ (balances_raiseError ..)
    exact balances_emit rfl rfl s

theorem balances_assembleBit {v : Bool} {s t : State} (h : assembleBit v s = .next t) : Balances s t := by
  rcases assembleBit_eq_next h with ⟨-, -, rfl⟩ | ⟨-, rfl⟩ | ⟨-, hf⟩
  · exact balances_of_uncounted rfl rfl rfl (openCount_afterCmd _ _)
  · exact balances_of_uncounted rfl rfl rfl rfl
  · obtain ⟨i, hframe, -, he⟩ := takeFraming_eq_next hf
    refine .trans ?_ (balances_exec_frame hframe he)
    exact balances_of_uncounted rfl rfl rfl rfl

theorem balances_arriveBit (s : State) : Balances s (arriveBit s) := balances_of_silent rfl (openCount_leaveIdle _)

theorem balances_exec_bit {v : Bool} {s t : State} (h : exec (bitInstr v) s = .next t) : Balances s t :=
  (balances_arriveBit s).trans (balances_assembleBit (exec_bit_eq_next h).1)

theorem balances_exec_badPulse {s t : State} (h : exec .badPulse s = .next t) : Balances s t := by
  rw [exec_badPulse] at h
  cases h
  refine ⟨_, rfl, ?_⟩
  unfold openCount
  split <;> rfl

theorem balances_exec {i : Instr} {s t : State} (h : exec i s = .next t) : Balances s t := by
  cases i with
  | bit0 => exact balances_exec_bit (v := false) h
  | bit1 => exact balances_exec_bit (v := true) h
  | trigger =>
    obtain ⟨hs, rfl⟩ := exec_trigger_eq_next_iff.1 h
    exact balances_of_uncounted rfl rfl rfl (by rw [hs]; rfl)
  | badPulse => exact balances_exec_badPulse h
  | start | skip | addr | ctlInAddr | rwidWr | rwidRd | ctlInRwid | wdata | endMark | badEnd | rdata =>
    exact balances_exec_frame rfl h

/-! ### Ticks -/

/-- The idle event moves between the two states outside a transaction (R92). -/
theorem balances_afterIdleClose (d prev : Level) (s : State) : Balances s (afterIdleClose d prev s) := by
  have hopen : openCount (idleEvent s).state = openCount s.state := by
    rw [idleEvent_state]
    split
    · rename_i hs
      rw [hs]
      rfl
    · rfl
  unfold afterIdleClose
  split <;> exact balances_of_silent rfl hopen

theorem balances_phaseRule {d : Level} {s u : State} (h : phaseRule d s = .next u) : Balances s u := by
  unfold phaseRule at h
  split at h
  · rcases waitFallRule_eq_next h with ⟨-, rfl⟩ | ⟨-, -, rfl⟩ | ⟨-, -, rfl⟩
    · exact balances_of_silent rfl rfl
    · exact balances_raiseError ..
    · exact balances_of_silent rfl rfl
  · rcases inLowRule_eq_next h with ⟨-, rfl⟩ | ⟨-, htrig, rfl⟩ | ⟨-, -, rfl⟩
    · exact balances_of_silent rfl rfl
    · obtain ⟨hs, -⟩ := isTrigger_iff.1 htrig
      exact balances_of_uncounted rfl rfl rfl (by rw [hs]; rfl)
    · exact balances_of_silent rfl rfl
  · rcases inHighRule_eq_next h with ⟨-, w, hw, rfl⟩ | ⟨-, -, w, hw, rfl⟩ | ⟨-, -, rfl⟩
    · exact (balances_exec hw).trans (balances_afterIdleClose ..)
    · exact (balances_exec hw).trans (balances_of_silent rfl rfl)
    · exact balances_of_silent rfl rfl

theorem balances_sampleTick {d : Level} {s u : State} (h : sampleTick d s = .next u) : Balances s u := by
  obtain ⟨-, -, ⟨-, rfl⟩ | ⟨-, w, hw, rfl⟩⟩ := sampleTick_eq_next h
  · exact balances_of_silent rfl rfl
  · exact (balances_phaseRule hw).trans (balances_of_silent rfl rfl)

theorem balances_prematureEnd (mid : Bool) (s : State) : Balances s (prematureEnd mid s) := by
  unfold prematureEnd
  split
  · exact balances_raiseError ..
  · exact balances_of_silent rfl rfl

theorem balances_eosTick {s u : State} (h : eosTick s = .next u) : Balances s u := by
  obtain ⟨-, w, hw, rfl⟩ := eosTick_eq_next h
  have hclose : Balances s w := by
    rcases eosClose_eq_next hw with ⟨v, hv, -⟩ | ⟨rfl, -⟩
    · exact balances_exec hv
    · exact balances_of_silent rfl rfl
  exact (hclose.trans (balances_prematureEnd ..)).trans (balances_of_silent rfl rfl)

/-- A tick whose records balance keeps the balance of the run. -/
theorem TxnBalanced.recordTrace {s u : State} (h : TxnBalanced s) (hout : s.out = []) (htrace : u.trace = s.trace)
    (hu : Balances s u) : TxnBalanced (recordTrace u) := by
  obtain ⟨records, hrecords, hcount⟩ := hu
  rw [hout, List.nil_append] at hrecords
  unfold TxnBalanced at h ⊢
  rw [recordTrace_trace, recordTrace_state, htrace, hrecords, List.countP_append, List.countP_append]
  unfold openCount at hcount
  omega

end Sys2Proof.Machine
end

section
/-! SUPPORT. The statements about the transaction FSM, settled. -/

namespace Sys2Proof.Machine

/-- Settles O54: a Reset tick begins a new run, and the records of any other tick balance. -/
theorem stepKeepsTransactionBalance : Obligations.StepKeepsTransactionBalance := by
  intro s t hbal h
  obtain ⟨u, hu, rfl⟩ := step_eq_next h
  have hbegin : TxnBalanced (beginTick s) := hbal
  cases hsym : s.nextSymbol with
  | reset =>
    rw [hsym] at hu
    cases hu
    exact txnBalanced_resetTick (beginTick s)
  | ignored | hold =>
    rw [hsym] at hu
    cases hu
    exact hbegin.recordTrace rfl rfl (balances_of_silent rfl rfl)
  | eos =>
    rw [hsym] at hu
    obtain ⟨-, -, -, -, htrace⟩ := eosTick_frame hu
    exact hbegin.recordTrace rfl htrace (balances_eosTick hu)
  | sample d =>
    rw [hsym] at hu
    obtain ⟨-, -, -, -, htrace⟩ := sampleTick_frame hu
    exact hbegin.recordTrace rfl htrace (balances_sampleTick hu)

/-- Settles O56: the two ticks that consume the stream run a phase rule or the close, and these complete. -/
theorem everyTickCompletes : Obligations.EveryTickCompletes := by
  intro s hi hl hp
  cases hsym : s.nextSymbol with
  | reset | ignored | hold =>
    unfold step tick
    rw [hsym]
    exact ⟨_, rfl⟩
  | eos =>
    rw [step_eos hsym hl]
    exact completes_andThen_next (completes_eosClose hi.beginTick) _
  | sample d =>
    cases hprimed : s.primed with
    | false => exact ⟨_, step_firstSample hsym hprimed hl hp⟩
    | true =>
      rw [step_sample hsym hprimed hl hp]
      exact completes_andThen_next (completes_phaseRule hi.beginTick d) _

/-- Settles O40: the bits that complete no byte are the CMD bit and the data bits. -/
theorem registersOfTheOtherPart : Obligations.RegistersOfTheOtherPart := by
  refine ⟨fun i s t => assembler_same_of_exec, fun i s t hf hc h => sameTransaction_exec_pulse hf (fun hbit => ?_) h⟩
  have hle := hc hbit
  cases hs : s.state.shape <;> rw [hs] at hle <;> exact Nat.lt_succ_of_le hle

/-- Settles O41, by the symbols: a pulse has no framing bit, and a frame shows it in its Bytes-row record alone. -/
theorem framingBitNeverSteers : Obligations.FramingBitNeverSteers := by
  intro i f g s
  cases i with
  | bit0 | bit1 | trigger | badPulse => exact alikeButFraming_refl _
  | start | skip | addr | rwidWr | rwidRd | wdata | endMark | rdata =>
    exact alikeButFraming_inState (differInFraming_of_byteRecord rfl rfl rfl)
  | ctlInAddr | ctlInRwid | badEnd =>
    exact alikeButFraming_inState
      (differInFraming_of_byteRecord rfl (List.append_assoc _ [_] _) (List.append_assoc _ [_] _))

/-- Settles O29: the decoder, START, SKIP, and a CMD bit, which leads out of WRITING_DATA and AWAITING_TRIGGER only. -/
theorem seekingStartByteResult : Obligations.SeekingStartByteResult := by
  refine ⟨fun c d f => ?_, fun s f hs => ?_, fun s c d f hs => ?_, fun s v hs hc => ?_⟩
  · rw [decode, decodeMaster_seekingStart, apply_ite Except.ok]
    simp [startValue]
  · refine ⟨_, inState_of_eq hs _, ?_⟩
    simp only [byteRecord_eq]
    rfl
  · refine (inState_of_eq hs _).trans ?_
    rw [byteRecord_eq]
    rfl
  · have hst : afterCmd (leaveIdle s.state) v = .seekingStart := by
      rw [hs]
      exact if_neg nofun
    exact ⟨_, exec_cmdBit (by rw [hs]; rfl) hc (by rw [hs]; exact nofun), hst⟩

/-- Settles O30: the decoder, the error, an address byte that is not the last, the last one. -/
theorem readingAddressByteResult : Obligations.ReadingAddressByteResult := by
  refine ⟨fun c d f => ?_, fun s d f hs => ?_, fun s a f hs hmore => ?_, fun s a f hs hlast => ?_⟩
  · rw [decode, decodeMaster_readingAddress, apply_ite Except.ok]
  · exact (inState_of_eq hs _).trans (congrArg _ (raiseError_after_byte _ d f (by rw [hs]; rfl)))
  · refine (inState_of_eq hs _).trans ?_
    simp only [if_neg hmore, byteRecord_eq, hs]
    rfl
  · refine (inState_of_eq hs _).trans ?_
    simp only [if_pos hlast, byteRecord_eq]
    rfl

/-- Settles O31: the decoder, the error, the two directions. -/
theorem readingRwIdByteResult : Obligations.ReadingRwIdByteResult := by
  refine ⟨fun c d f => ?_, fun s d f hs => ?_, fun s id f hs => ?_, fun s id f hs => ?_⟩
  · rw [decode, decodeMaster_readingRwId, apply_ite Except.ok, apply_ite Except.ok]
    rfl
  · exact (inState_of_eq hs _).trans (congrArg _ (raiseError_after_byte _ d f (by rw [hs]; rfl)))
  · refine (inState_of_eq hs _).trans ?_
    simp only [takeRwid, byteRecord_eq, rwidDir_append]
  · refine (inState_of_eq hs _).trans ?_
    simp only [takeRwid, byteRecord_eq, rwidDir_append]

/-- Settles O32. -/
theorem writingDataByteResult : Obligations.WritingDataByteResult := by
  refine ⟨fun c d f => ?_, fun s d f hs => ?_⟩
  · exact decodeMaster_writingData c d f
  · refine (inState_of_eq hs _).trans ?_
    rw [byteRecord_eq]
    rfl

/-- Settles O33. -/
theorem triggerResult : Obligations.TriggerResult := fun _ hs => exec_trigger_eq_next_iff.2 ⟨hs, rfl⟩

/-- Settles O34: a SLAVE byte has no CMD bit, its first bit is data. -/
theorem readingDataByteResult : Obligations.ReadingDataByteResult := by
  refine ⟨decodeSlave_readingData, fun s d f hs => ?_, fun s v hs hc => ?_⟩
  · refine (inState_of_eq hs _).trans ?_
    rw [byteRecord_eq]
    rfl
  · have hbit : exec (bitInstr v) s = .next (takeData v (arriveBit s)) :=
      exec_dataBit (by rw [hs, hc]; decide) (by rw [hs, hc]; decide) (by rw [hs]; exact nofun)
    refine ⟨_, hbit, ?_, ?_, rfl, rfl⟩
    · rw [takeData_state, arriveBit_state, hs]
      rfl
    · rw [takeData_cnt, arriveBit_cnt, hc]
      rfl

/-- Settles O35: the decoder, END, the error. -/
theorem seekingEndByteResult : Obligations.SeekingEndByteResult := by
  refine ⟨fun d f => ?_, fun s f hs => ?_, fun s d f hs => ?_⟩
  · rw [decode, decodeMaster_seekingEnd, if_pos rfl, apply_ite Except.ok]
    simp [endValue]
  · refine (inState_of_eq hs _).trans ?_
    rw [byteRecord_eq]
    rfl
  · exact (inState_of_eq hs _).trans (congrArg _ (raiseError_after_byte _ d f (by rw [hs]; rfl)))

/-- Settles O37. -/
theorem txnRecordHoldsRegisters : Obligations.TxnRecordHoldsRegisters := fun _ _ _ => rfl

/-- Settles O38: a bit that is no frame's, a framing bit whose word has no row, a symbol outside its row's state. -/
theorem symbolWithoutRowIsRefused : Obligations.SymbolWithoutRowIsRefused := by
  refine ⟨fun s hs => if_pos hs, fun s v e hidle hs hc hv hdec => ?_, fun s i hi hlegal => ?_⟩
  · have hframing : s.cnt.val = firstData s.state.shape + 8 := by
      rw [hs, hc]
      rfl
    rw [← frameWire_of_master v hs] at hdec
    calc exec (bitInstr v) s
      _ = assembleBit v (arriveBit s) := exec_bit hv
      _ = assembleBit v s := by rw [arriveBit_eq_self hidle (by rw [hc]; decide)]
      _ = takeFraming v s := assembleBit_framing v hframing
      _ = .refused .unreachableFrame := takeFraming_eq_refused hdec
  · rcases hi with hf | rfl
    · exact exec_frame_refused hf hlegal
    · exact if_neg (beq_eq_false_iff_ne.1 hlegal)

end Sys2Proof.Machine
end

section
/-! SUPPORT. What a tick puts on the ports (R125 to R135): for each symbol and each rule the records it emits, where they
end, on which ports they stand, and which of them come together. -/

namespace Sys2Proof.Machine

/-! ### Ports -/

@[simp] theorem Record.row_mk (p : Payload) (a b : Pos) : (⟨p, a, b⟩ : Record).row = p.row := rfl
@[simp] theorem Payload.row_bitsData (v : Bool) : (Payload.bitsData v).row = .bits := rfl
@[simp] theorem Payload.row_bitsCmd (v : Bool) : (Payload.bitsCmd v).row = .bits := rfl
@[simp] theorem Payload.row_bitsErr : Payload.bitsErr.row = .bits := rfl
@[simp] theorem Payload.row_byte (x : Byte) (b c f : Bool) : (Payload.byte x b c f).row = .bytes := rfl
@[simp] theorem Payload.row_masterTrigger : Payload.masterTrigger.row = .master := rfl
@[simp] theorem Payload.row_masterError (k : ErrorKind) (v : Byte) : (Payload.masterError k v).row = .master := rfl
@[simp] theorem Payload.row_txn (info : TxnInfo) : (Payload.txn info).row = .txn := rfl
@[simp] theorem row_txnRecord (o : TxnOutcome) (b : Pos) (s : State) : (txnRecord o b s).row = .txn := rfl

/-- Every port but the Bits row's has a number above it. -/
theorem Row.code_pos {x : Row} (h : x ≠ .bits) : 0 < x.code := by
  cases x with
  | bits => exact absurd rfl h
  | bytes | master | slave | txn => decide

/-! ### Which records come together -/

/-- A record that a completed byte gives rise to above the Bytes row (R128, R135). -/
def Record.IsOfByte (r : Record) : Prop :=
  r.row = .slave ∨ r.payload = .masterStart ∨ r.payload = .masterEnd ∨
    (∃ v, r.payload = .masterWdata v) ∨ (∃ v, r.payload = .masterRwid v) ∨ (∃ v, r.payload = .masterAddr v) ∨
    (∃ v, r.payload = .masterError .unexpectedControlByte v) ∨ (∃ v, r.payload = .masterError .malformedEndMarker v)

/-- The Master-row record of a bad pulse (R151). -/
def Record.IsBadPulse (r : Record) : Prop := ∃ v, r.payload = .masterError .invalidBitEncoding v

/-- The lower rows show what the higher ones rest on (R95, R128, R135). -/
structure GroundTruth (l : List Record) : Prop where
  byteBit : (∃ r ∈ l, r.row = .bytes) → ∃ r ∈ l, ∃ v, r.payload = .bitsData v
  ofByte : (∃ r ∈ l, r.IsOfByte) → ∃ r ∈ l, r.row = .bytes
  badPulse : (∃ r ∈ l, r.IsBadPulse) → ∃ r ∈ l, r.payload = .bitsErr

theorem exists_mem_append_of_imp {a b : List Record} {P Q : Record → Prop}
    (ha : (∃ r ∈ a, P r) → ∃ r ∈ a, Q r) (hb : (∃ r ∈ b, P r) → ∃ r ∈ b, Q r) :
    (∃ r ∈ a ++ b, P r) → ∃ r ∈ a ++ b, Q r := by
  simp only [List.mem_append, or_and_right, exists_or]
  exact Or.imp ha hb

theorem GroundTruth.append {a b : List Record} (ha : GroundTruth a) (hb : GroundTruth b) : GroundTruth (a ++ b) where
  byteBit := exists_mem_append_of_imp ha.byteBit hb.byteBit
  ofByte := exists_mem_append_of_imp ha.ofByte hb.ofByte
  badPulse := exists_mem_append_of_imp ha.badPulse hb.badPulse

/-- Records that rest on no other one. -/
theorem groundTruth_of_bare {l : List Record} (h : ∀ r ∈ l, r.row ≠ .bytes ∧ ¬r.IsOfByte ∧ ¬r.IsBadPulse) :
    GroundTruth l where
  byteBit := fun ⟨r, hr, hrow⟩ => absurd hrow (h r hr).1
  ofByte := fun ⟨r, hr, hbyte⟩ => absurd hbyte (h r hr).2.1
  badPulse := fun ⟨r, hr, hbad⟩ => absurd hbad (h r hr).2.2

/-! ### What one symbol emits -/

/-- The ports of the records in the order of the rows, at most one record a port (R132, R133). -/
def PortsRise (l : List Record) : Prop := (l.map fun r => r.row.code).Pairwise (· < ·)

/-- From `s` to `t` the records `l` leave, as one symbol's records do: they end at the position of the tick, stand on
different ports in the order of the rows, show their ground truth, and the TXN record closes the transaction. -/
structure Emits (s t : State) (l : List Record) : Prop where
  out : t.out = s.out ++ l
  ends : ∀ r ∈ l, r.stop = s.pos
  rise : PortsRise l
  truth : GroundTruth l
  closes : (∃ r ∈ l, r.row = .txn) → t.state.txnOpen = false

theorem emits_nil {s t : State} (hout : t.out = s.out) : Emits s t [] where
  out := hout.trans (List.append_nil _).symm
  ends := nofun
  rise := .nil
  truth := groundTruth_of_bare nofun
  closes := nofun

theorem emits_singleton {s t : State} {r : Record} (hout : t.out = s.out ++ [r]) (hstop : r.stop = s.pos)
    (hbare : r.row ≠ .bytes ∧ ¬r.IsOfByte ∧ ¬r.IsBadPulse) (htxn : r.row ≠ .txn) : Emits s t [r] where
  out := hout
  ends := by simpa using hstop
  rise := List.pairwise_singleton _ _
  truth := groundTruth_of_bare (by simpa using hbare)
  closes h := absurd (by simpa using h) htxn

/-- What follows a symbol in its tick emits nothing and opens no transaction. -/
theorem Emits.trans_silent {s t u : State} {l : List Record} (h : Emits s t l) (hout : u.out = t.out)
    (hopen : u.state.txnOpen = t.state.txnOpen) : Emits s u l :=
  ⟨hout.trans h.out, h.ends, h.rise, h.truth, fun hl => hopen.trans (h.closes hl)⟩

/-! ### Errors -/

theorem mem_errorRecords {k : ErrorKind} {a b : Pos} {v : Byte} {s : State} {r : Record} :
    r ∈ errorRecords k a b v s ↔
      r = ⟨.masterError k v, a, b⟩ ∨ s.state.txnOpen = true ∧ r = txnRecord (.error k) b s := by
  unfold errorRecords
  split <;> simp [*]

theorem portsRise_errorRecords (k : ErrorKind) (a b : Pos) (v : Byte) (s : State) :
    PortsRise (errorRecords k a b v s) := by
  unfold PortsRise errorRecords
  split <;> simp [Row.code]

/-- The errors that no byte and no pulse of this tick brings about: a missing trigger and the end of stream. -/
theorem emits_raiseError {k : ErrorKind} (hk : k = .missingTrigger ∨ k = .prematureEndOfStream) (a : Pos) (v : Byte)
    (s : State) : Emits s (raiseError k a s.pos v s) (errorRecords k a s.pos v s) where
  out := rfl
  ends r hr := by rcases mem_errorRecords.1 hr with rfl | ⟨-, rfl⟩ <;> rfl
  rise := portsRise_errorRecords ..
  truth := by
    refine groundTruth_of_bare fun r hr => ?_
    rcases mem_errorRecords.1 hr with rfl | ⟨-, rfl⟩
    · rcases hk with rfl | rfl <;> simp [Record.IsOfByte, Record.IsBadPulse]
    · simp [Record.IsOfByte, Record.IsBadPulse, txnRecord]
  closes _ := rfl

/-! ### Frames -/

/-- What the byte that completes from `s` to `t` emits (R89, R103 to R112): its Bytes-row record; above it at most one
record of the Master or the Slave row, over the byte or over the whole address; after a Master-row record the TXN record
where the transaction closes. -/
inductive FrameRecords (s t : State) : List Record → Prop
  | byte {x : Byte} {b c f : Bool} : FrameRecords s t [⟨.byte x b c f, s.byteStart, s.pos⟩]
  | value {x : Byte} {b c f : Bool} {p : Payload} {a : Pos} (hrow : p.row = .master ∨ p.row = .slave)
      (hgood : ∀ v, p ≠ .masterError .invalidBitEncoding v)
      (hstart : a = s.byteStart ∨ s.state = .readingAddress ∧ s.addrCnt ≠ 0 ∧ p.row = .master ∧ a = s.addrStart)
      (haddr : t.state = .readingAddress → t.addrCnt = 0) :
      FrameRecords s t [⟨.byte x b c f, s.byteStart, s.pos⟩, ⟨p, a, s.pos⟩]
  | closing {x : Byte} {b c f : Bool} {p : Payload} {o : TxnOutcome} (hrow : p.row = .master)
      (hgood : ∀ v, p ≠ .masterError .invalidBitEncoding v) (hopen : s.state.txnOpen = true)
      (hclosed : t.state.txnOpen = false) :
      FrameRecords s t [⟨.byte x b c f, s.byteStart, s.pos⟩, ⟨p, s.byteStart, s.pos⟩, txnRecord o s.pos s]

theorem exists_frameRecords {i : Instr} {s t : State} (hf : i.isFrame = true) (h : exec i s = .next t) :
    ∃ l, t.out = s.out ++ l ∧ FrameRecords s t l := by
  cases i with
  | bit0 | bit1 | trigger | badPulse => cases hf
  | skip c d f =>
    obtain ⟨-, rfl⟩ := inState_eq_next_iff.1 h
    exact ⟨_, rfl, .byte⟩
  | start f =>
    obtain ⟨-, rfl⟩ := inState_eq_next_iff.1 h
    exact ⟨_, rfl, .value (.inl rfl) nofun (.inl rfl) fun _ => rfl⟩
  | addr a f =>
    obtain ⟨hs, rfl⟩ := inState_eq_next_iff.1 h
    refine ⟨_, rfl, ?_⟩
    split
    · refine .value (.inl rfl) nofun ?_ (fun k => by simp [*] at k)
      split
      · exact .inl rfl
      · exact .inr ⟨hs, ‹_›, rfl, rfl⟩
    · exact .byte
  | rwidWr | rwidRd =>
    obtain ⟨-, rfl⟩ := inState_eq_next_iff.1 h
    exact ⟨_, rfl, .value (.inl rfl) nofun (.inl rfl) nofun⟩
  | wdata d f =>
    obtain ⟨hs, rfl⟩ := inState_eq_next_iff.1 h
    exact ⟨_, rfl, .value (.inl rfl) nofun (.inl rfl) fun k => nomatch hs.symm.trans k⟩
  | rdata d f =>
    obtain ⟨-, rfl⟩ := inState_eq_next_iff.1 h
    exact ⟨_, rfl, .value (.inr rfl) nofun (.inl rfl) nofun⟩
  | endMark f =>
    obtain ⟨hs, rfl⟩ := inState_eq_next_iff.1 h
    exact ⟨_, rfl, .closing rfl nofun (by rw [hs]; rfl) rfl⟩
  | ctlInAddr d f | ctlInRwid d f | badEnd d f =>
    obtain ⟨hs, rfl⟩ := inState_eq_next_iff.1 h
    have hopen : s.state.txnOpen = true := by rw [hs]; rfl
    rw [raiseError_after_byte _ d f hopen]
    exact ⟨_, rfl, .closing rfl nofun hopen rfl⟩

section
variable {s t : State} {l : List Record}

theorem FrameRecords.ends (h : FrameRecords s t l) : ∀ r ∈ l, r.stop = s.pos := by
  cases h <;> simp [txnRecord]

theorem FrameRecords.ne_bits (h : FrameRecords s t l) : ∀ r ∈ l, r.row ≠ .bits := by
  cases h with
  | byte => simp
  | value hrow => rcases hrow with e | e <;> simp [e]
  | closing hrow => simp [hrow]

theorem FrameRecords.portsRise (h : FrameRecords s t l) : PortsRise l := by
  unfold PortsRise
  cases h with
  | byte => exact List.pairwise_singleton _ _
  | value hrow => rcases hrow with e | e <;> simp [e, Row.code]
  | closing hrow => simp [hrow, Row.code]

theorem FrameRecords.exists_bytes (h : FrameRecords s t l) : ∃ r ∈ l, r.row = .bytes := by
  cases h <;> exact ⟨_, List.mem_cons_self, rfl⟩

theorem FrameRecords.not_isBadPulse (h : FrameRecords s t l) : ∀ r ∈ l, ¬r.IsBadPulse := by
  cases h with
  | byte => simp [Record.IsBadPulse]
  | value _ hgood => simpa [Record.IsBadPulse] using hgood
  | closing _ hgood => simpa [Record.IsBadPulse, txnRecord] using hgood

theorem FrameRecords.closes (h : FrameRecords s t l) : (∃ r ∈ l, r.row = .txn) → t.state.txnOpen = false := by
  cases h with
  | byte => simp
  | value hrow => rcases hrow with e | e <;> simp [e]
  | closing _ _ _ hclosed => exact fun _ => hclosed

end

/-! ### Pulses -/

/-- The framing bit's record, then those of the byte it completes (R89). -/
theorem exists_emits_takeFraming {v : Bool} {s t : State} (h : takeFraming v s = .next t) : ∃ l, Emits s t l := by
  obtain ⟨i, hf, -, he⟩ := takeFraming_eq_next h
  obtain ⟨l, hout, hl⟩ := exists_frameRecords hf he
  obtain ⟨b, hb, hbytes⟩ := hl.exists_bytes
  refine ⟨⟨.bitsData v, s.fallPos, s.pos⟩ :: l, hout.trans (List.append_assoc ..), ?_, ?_, ⟨?_, ?_, ?_⟩, ?_⟩
  · exact List.forall_mem_cons.2 ⟨rfl, hl.ends⟩
  · refine List.pairwise_cons.2 ⟨List.forall_mem_map.2 fun r hr => ?_, hl.portsRise⟩
    exact Row.code_pos (hl.ne_bits r hr)
  · exact fun _ => ⟨_, List.mem_cons_self, v, rfl⟩
  · exact fun _ => ⟨b, List.mem_cons_of_mem _ hb, hbytes⟩
  · rintro ⟨r, hr, hbad⟩
    rcases List.mem_cons.1 hr with rfl | hr
    · exact absurd hbad (by simp [Record.IsBadPulse])
    · exact absurd hbad (hl.not_isBadPulse r hr)
  · rintro ⟨r, hr, hrow⟩
    rcases List.mem_cons.1 hr with rfl | hr
    · cases hrow
    · exact hl.closes ⟨r, hr, hrow⟩

theorem exists_emits_exec_bit {v : Bool} {s t : State} (h : exec (bitInstr v) s = .next t) : ∃ l, Emits s t l := by
  rcases assembleBit_eq_next (exec_bit_eq_next h).1 with ⟨-, -, rfl⟩ | ⟨-, rfl⟩ | ⟨-, hf⟩
  · exact ⟨_, emits_singleton rfl rfl (by simp [Record.IsOfByte, Record.IsBadPulse]) nofun⟩
  · exact ⟨_, emits_singleton rfl rfl (by simp [Record.IsOfByte, Record.IsBadPulse]) nofun⟩
  · obtain ⟨l, hl⟩ := exists_emits_takeFraming hf
    exact ⟨l, hl.out, hl.ends, hl.rise, hl.truth, hl.closes⟩

/-- What a bad pulse emits (R91, R151). -/
def badPulseRecords (s : State) : List Record :=
  ⟨.bitsErr, s.fallPos, s.pos⟩ :: (if s.state.txnOpen then
    [⟨.masterError .invalidBitEncoding 0, if s.cnt = 0 then s.fallPos else s.byteStart, s.pos⟩,
      txnRecord (.error .invalidBitEncoding) s.pos s] else [])

theorem exec_badPulse_eq (s : State) : exec .badPulse s =
    .next { s with out := s.out ++ badPulseRecords s, cnt := 0, state := .seekingStart } := exec_badPulse s

theorem mem_badPulseRecords {s : State} {r : Record} : r ∈ badPulseRecords s ↔
    r = ⟨.bitsErr, s.fallPos, s.pos⟩ ∨ s.state.txnOpen = true ∧
      (r = ⟨.masterError .invalidBitEncoding 0, if s.cnt = 0 then s.fallPos else s.byteStart, s.pos⟩ ∨
        r = txnRecord (.error .invalidBitEncoding) s.pos s) := by
  unfold badPulseRecords
  split <;> simp [*]

theorem portsRise_badPulseRecords (s : State) : PortsRise (badPulseRecords s) := by
  unfold PortsRise badPulseRecords
  split <;> simp [Row.code]

theorem emits_exec_badPulse {s t : State} (h : exec .badPulse s = .next t) : Emits s t (badPulseRecords s) := by
  have hrow : ∀ r ∈ badPulseRecords s, r.stop = s.pos ∧ r.row ≠ .bytes ∧ ¬r.IsOfByte := by
    intro r hr
    rcases mem_badPulseRecords.1 hr with rfl | ⟨-, rfl | rfl⟩ <;>
      simp [txnRecord, Record.IsOfByte]
  rw [exec_badPulse_eq] at h
  cases h
  exact
    { out := rfl
      ends := fun r hr => (hrow r hr).1
      rise := portsRise_badPulseRecords s
      truth :=
        { byteBit := fun ⟨r, hr, hbytes⟩ => absurd hbytes (hrow r hr).2.1
          ofByte := fun ⟨r, hr, hbyte⟩ => absurd hbyte (hrow r hr).2.2
          badPulse := fun _ => ⟨_, List.mem_cons_self, rfl⟩ }
      closes := fun _ => rfl }

/-! ### Rules and ticks -/

theorem exists_emits_closedPulse {i : Instr} {s t : State}
    (hi : i = bitInstr false ∨ i = bitInstr true ∨ i = .badPulse) (h : exec i s = .next t) : ∃ l, Emits s t l := by
  rcases hi with rfl | rfl | rfl
  · exact exists_emits_exec_bit h
  · exact exists_emits_exec_bit h
  · exact ⟨_, emits_exec_badPulse h⟩

theorem classifyIdle_closed (l : Nat) :
    classifyIdle l = bitInstr false ∨ classifyIdle l = bitInstr true ∨ classifyIdle l = .badPulse :=
  (classifyIdle_cases l).imp And.left (Or.imp_left And.left)

theorem classifyStrict_closed (l h : Nat) :
    classifyStrict l h = bitInstr false ∨ classifyStrict l h = bitInstr true ∨ classifyStrict l h = .badPulse :=
  (classifyStrict_cases l h).imp And.left (Or.imp_left And.left)

theorem afterIdleClose_out (d prev : Level) (s : State) : (afterIdleClose d prev s).out = s.out := by
  unfold afterIdleClose
  split <;> rfl

/-- The idle event moves between the two states outside a transaction (R92). -/
theorem idleEvent_txnOpen (s : State) : (idleEvent s).state.txnOpen = s.state.txnOpen := by
  rw [idleEvent_state]
  split
  · rename_i hs
    rw [hs]
    rfl
  · rfl

theorem afterIdleClose_txnOpen (d prev : Level) (s : State) :
    (afterIdleClose d prev s).state.txnOpen = s.state.txnOpen := by
  unfold afterIdleClose
  split <;> exact idleEvent_txnOpen s

/-- A phase rule runs one symbol at most, or finds the trigger missing (R73 to R75). -/
theorem exists_emits_phaseRule {d : Level} {s u : State} (h : phaseRule d s = .next u) : ∃ l, Emits s u l := by
  unfold phaseRule at h
  split at h
  · rcases waitFallRule_eq_next h with ⟨-, rfl⟩ | ⟨-, -, rfl⟩ | ⟨-, -, rfl⟩
    · exact ⟨_, emits_nil rfl⟩
    · exact ⟨_, emits_raiseError (.inl rfl) ..⟩
    · exact ⟨_, emits_nil rfl⟩
  · rcases inLowRule_eq_next h with ⟨-, rfl⟩ | ⟨-, -, rfl⟩ | ⟨-, -, rfl⟩
    · exact ⟨_, emits_nil rfl⟩
    · exact ⟨_, emits_singleton rfl rfl (by simp [Record.IsOfByte, Record.IsBadPulse]) nofun⟩
    · exact ⟨_, emits_nil rfl⟩
  · rcases inHighRule_eq_next h with ⟨-, w, hw, rfl⟩ | ⟨-, -, w, hw, rfl⟩ | ⟨-, -, rfl⟩
    · obtain ⟨l, hl⟩ := exists_emits_closedPulse (classifyIdle_closed _) hw
      exact ⟨l, hl.trans_silent (afterIdleClose_out ..) (afterIdleClose_txnOpen ..)⟩
    · obtain ⟨l, hl⟩ := exists_emits_closedPulse (classifyStrict_closed _ _) hw
      exact ⟨l, hl.trans_silent rfl rfl⟩
    · exact ⟨_, emits_nil rfl⟩

theorem exists_emits_sampleTick {d : Level} {s u : State} (h : sampleTick d s = .next u) : ∃ l, Emits s u l := by
  obtain ⟨-, -, ⟨-, rfl⟩ | ⟨-, w, hw, rfl⟩⟩ := sampleTick_eq_next h
  · exact ⟨_, emits_nil rfl⟩
  · obtain ⟨l, hl⟩ := exists_emits_phaseRule hw
    exact ⟨l, hl.trans_silent rfl rfl⟩

/-- The end-of-stream test emits a Master record, and a TXN record if it finds a transaction open (R152). -/
theorem exists_emits_prematureEnd (mid : Bool) (s : State) :
    ∃ l, Emits s (prematureEnd mid s) l ∧
      ∀ r ∈ l, r.row = .master ∨ r.row = .txn ∧ s.state.txnOpen = true := by
  unfold prematureEnd
  split
  · refine ⟨_, emits_raiseError (.inr rfl) .., fun r hr => ?_⟩
    rcases mem_errorRecords.1 hr with rfl | ⟨hopen, rfl⟩
    · exact .inl rfl
    · exact .inr ⟨rfl, hopen⟩
  · exact ⟨_, emits_nil rfl, nofun⟩

/-- An Eos tick emits the records of the symbol it closes, then those of the end-of-stream test (R144). -/
theorem exists_emits_eosTick {s u : State} (h : eosTick s = .next u) :
    ∃ w mid l m, Emits s w l ∧ Emits w (prematureEnd mid w) m ∧ w.pos = s.pos ∧ u.out = s.out ++ (l ++ m) ∧
      ∀ r ∈ m, r.row = .master ∨ r.row = .txn ∧ w.state.txnOpen = true := by
  obtain ⟨-, w, hw, rfl⟩ := eosTick_eq_next h
  obtain ⟨l, hl⟩ : ∃ l, Emits s w l := by
    rcases eosClose_eq_next hw with ⟨v, hv, -⟩ | ⟨rfl, -⟩
    · exact exists_emits_exec_bit hv
    · exact ⟨_, emits_nil rfl⟩
  obtain ⟨m, hm, hrows⟩ := exists_emits_prematureEnd (midBit s) w
  refine ⟨w, midBit s, l, m, hl, hm, (samePulse_eosClose hw).pos, ?_, hrows⟩
  rw [finishStream_out, hm.out, hl.out, List.append_assoc]

/-- What holds of the records of every tick: they end at its position and show their ground truth. -/
theorem step_out {s t : State} (h : step s = .next t) : (∀ r ∈ t.out, r.stop = s.pos) ∧ GroundTruth t.out := by
  have hnil : ∀ {out : List Record}, out = [] → (∀ r ∈ out, r.stop = s.pos) ∧ GroundTruth out := by
    rintro _ rfl
    exact ⟨nofun, groundTruth_of_bare nofun⟩
  obtain ⟨u, hu, rfl⟩ := step_eq_next h
  cases hsym : s.nextSymbol with
  | reset | ignored | hold =>
    rw [hsym] at hu
    cases hu
    exact hnil rfl
  | eos =>
    rw [hsym] at hu
    obtain ⟨w, mid, l, m, hl, hm, hpos, hout, -⟩ := exists_emits_eosTick hu
    rw [recordTrace_out, hout, beginTick_out, List.nil_append]
    exact ⟨List.forall_mem_append.2 ⟨hl.ends, fun r hr => (hm.ends r hr).trans hpos⟩, hl.truth.append hm.truth⟩
  | sample d =>
    rw [hsym] at hu
    obtain ⟨l, hl⟩ := exists_emits_sampleTick hu
    rw [recordTrace_out, hl.out, beginTick_out, List.nil_append]
    exact ⟨hl.ends, hl.truth⟩

/-! ### Capacity -/

/-- One symbol puts at most one record on a port (R132). -/
theorem PortsRise.countP_le_one {l : List Record} (h : PortsRise l) (x : Row) :
    l.countP (fun r => r.row == x) ≤ 1 := by
  induction l with
  | nil => exact Nat.zero_le _
  | cons r l ih =>
    obtain ⟨hr, hl⟩ := List.pairwise_cons.1 h
    by_cases hx : r.row = x
    · have hnone : l.countP (fun q => q.row == x) = 0 := List.countP_eq_zero.2 fun q hq hqx => by
        have hlt := hr _ (List.mem_map_of_mem hq)
        dsimp only at hlt
        rw [hx, eq_of_beq hqx] at hlt
        exact absurd hlt (Nat.lt_irrefl _)
      rw [List.countP_cons, hnone]
      split <;> decide
    · rw [List.countP_cons_of_neg (by simpa using hx)]
      exact ih hl

end Sys2Proof.Machine
end

section
/-! SUPPORT. The statements about the ports, settled. -/

namespace Sys2Proof.Machine

/-- Settles O47: a Sample tick runs one symbol at most. -/
theorem sampleTickPortOrder : Obligations.SampleTickPortOrder := by
  intro s t d hsym h
  obtain ⟨u, hu, rfl⟩ := step_eq_next h
  rw [hsym] at hu
  obtain ⟨l, hl⟩ := exists_emits_sampleTick hu
  rw [recordTrace_out, hl.out]
  exact hl.rise

/-- Settles O48: of the records of the end-of-stream test only the Master one can find its port taken, for a symbol that
closed the transaction leaves it no TXN record to make. -/
theorem eosTickPortCapacity : Obligations.EosTickPortCapacity := by
  intro s t x hsym h
  obtain ⟨u, hu, rfl⟩ := step_eq_next h
  rw [hsym] at hu
  obtain ⟨w, mid, l, m, hl, hm, -, hout, hrows⟩ := exists_emits_eosTick hu
  have hl1 := hl.rise.countP_le_one x
  have hm1 := hm.rise.countP_le_one x
  rw [recordTrace_out, hout, beginTick_out, List.nil_append, List.countP_append]
  by_cases hx : x = .master
  · rw [if_pos hx]
    exact Nat.add_le_add hl1 hm1
  · have hone : l.countP (fun r => r.row == x) = 0 ∨ m.countP (fun r => r.row == x) = 0 := by
      by_contra! hboth
      obtain ⟨hlx, hmx⟩ := hboth
      obtain ⟨r, hr, hrx⟩ := List.countP_pos_iff.1 (Nat.pos_of_ne_zero hlx)
      obtain ⟨q, hq, hqx⟩ := List.countP_pos_iff.1 (Nat.pos_of_ne_zero hmx)
      rw [beq_iff_eq] at hrx hqx
      rcases hrows q hq with hmaster | ⟨htxn, hopen⟩
      · exact hx (hqx.symm.trans hmaster)
      · have hclosed := hl.closes ⟨r, hr, hrx.trans (hqx.symm.trans htxn)⟩
        exact absurd hopen (by simp [hclosed])
    rw [if_neg hx]
    omega

/-- Settles O49. -/
theorem recordsEndAtTheTick : Obligations.RecordsEndAtTheTick := fun _ _ h => (step_out h).1

/-- Settles O50. -/
theorem rowsShowGroundTruth : Obligations.RowsShowGroundTruth := fun _ _ h =>
  have truth := (step_out h).2
  ⟨truth.byteBit, truth.ofByte, truth.badPulse⟩

end Sys2Proof.Machine
end

section
/-! SUPPORT. The spans of the run (R125, R134): from where on each port is free, what a symbol's records make of that, and
the span invariants in two parts, the decoder's and the classifier's. -/

namespace Sys2Proof.Machine

/-! ### The records of the run -/

/-- The records of the run, those of the tick under way among them. -/
def State.records (s : State) : List Record := s.trace ++ s.out

/-- From `a` on the ports `rows` are free: every record on one of them ends by `a`. -/
def FreeFrom (s : State) (rows : Row → Prop) (a : Pos) : Prop :=
  a ≤ s.pos ∧ ∀ r ∈ s.records, rows r.row → r.stop ≤ a

/-- R134 (a) and (b), R125 and R39 (d), with the records of the tick under way. -/
def SpansOrdered (s : State) : Prop :=
  s.records.Pairwise Follows ∧ ∀ r ∈ s.records, r.start ≤ r.stop ∧ r.stop ≤ s.pos

theorem records_eq_append {s t : State} {l : List Record} (k : SameRun s t) (hout : t.out = s.out ++ l) :
    t.records = s.records ++ l := by
  rw [State.records, State.records, k.trace, hout, List.append_assoc]

section
variable {s t : State} {l : List Record} {rows : Row → Prop} {a : Pos}

theorem FreeFrom.le (h : FreeFrom s rows a) : a ≤ s.pos := h.1

theorem FreeFrom.stop_le (h : FreeFrom s rows a) : ∀ r ∈ s.records, rows r.row → r.stop ≤ a := h.2

theorem SpansOrdered.ordered (h : SpansOrdered s) : s.records.Pairwise Follows := h.1

theorem SpansOrdered.bounded (h : SpansOrdered s) : ∀ r ∈ s.records, r.start ≤ r.stop ∧ r.stop ≤ s.pos := h.2

theorem FreeFrom.mono {rows' : Row → Prop} (h : FreeFrom s rows a) (hrows : ∀ x, rows' x → rows x) :
    FreeFrom s rows' a :=
  ⟨h.le, fun r hr hrow => h.stop_le r hr (hrows _ hrow)⟩

theorem FreeFrom.of_all (h : FreeFrom s (fun _ => True) a) : FreeFrom s rows a := h.mono fun _ _ => trivial

theorem FreeFrom.of_aboveBits {x : Row} (h : FreeFrom s (· ≠ .bits) a) (hx : x ≠ .bits) : FreeFrom s (· = x) a :=
  h.mono fun _ hy => hy ▸ hx

/-- Records on other ports leave a port free. -/
theorem FreeFrom.append (h : FreeFrom s rows a) (k : SameRun s t) (hout : t.out = s.out ++ l)
    (hl : ∀ r ∈ l, ¬rows r.row) : FreeFrom t rows a := by
  refine ⟨k.pos ▸ h.le, ?_⟩
  rw [records_eq_append k hout]
  exact List.forall_mem_append.2 ⟨h.stop_le, fun r hr hrow => absurd hrow (hl r hr)⟩

/-- No record ends after the position, so every port is free from there on. -/
theorem SpansOrdered.freeFrom_pos (h : SpansOrdered s) (rows : Row → Prop) : FreeFrom s rows s.pos :=
  ⟨Nat.le_refl _, fun r hr _ => (h.bounded r hr).2⟩

/-- The rule for what a symbol emits: records that end at the position, on different ports, each beginning where its
port is free, keep the order of the spans (R132 to R134). -/
theorem SpansOrdered.append (h : SpansOrdered s) (k : SameRun s t) (hout : t.out = s.out ++ l)
    (hends : ∀ r ∈ l, r.stop = s.pos) (hrise : PortsRise l) (hfree : ∀ r ∈ l, FreeFrom s (· = r.row) r.start) :
    SpansOrdered t := by
  have hrecords := records_eq_append k hout
  have hnew : l.Pairwise Follows := (List.pairwise_map.1 hrise).imp_of_mem fun {r q} hr hq hlt =>
    ⟨Nat.le_of_eq ((hends r hr).trans (hends q hq).symm),
      fun hrow => absurd hlt (by rw [hrow]; exact Nat.lt_irrefl _)⟩
  have hcross : ∀ r ∈ s.records, ∀ q ∈ l, Follows r q := fun r hr q hq =>
    ⟨hends q hq ▸ (h.bounded r hr).2, (hfree q hq).stop_le r hr⟩
  constructor
  · rw [hrecords]
    exact List.pairwise_append.2 ⟨h.ordered, hnew, hcross⟩
  · rw [hrecords, k.pos]
    refine List.forall_mem_append.2 ⟨h.bounded, fun r hr => ?_⟩
    rw [hends r hr]
    exact ⟨(hfree r hr).le, Nat.le_refl _⟩

end

/-! ### The two parts of the invariant -/

/-- The part of the span invariants that symbols can break: what is under way in the decoder began where its ports
are free. -/
structure SymbolSpans (s : State) : Prop where
  spans : SpansOrdered s
  byte : s.cnt ≠ 0 → FreeFrom s (· ≠ .bits) s.byteStart
  addr : s.state = .readingAddress → s.addrCnt ≠ 0 → FreeFrom s (· = .master) s.addrStart
  wait : s.state = .awaitingTrigger → FreeFrom s (· = .master) s.waitStart
  txn : s.state.txnOpen = true → FreeFrom s (· = .txn) s.txnStart

/-- The classifier's part: the open pulse began where every port is free, and within the byte under way. -/
structure PulseSpans (s : State) : Prop where
  pulse : s.phase ≠ .waitFall → FreeFrom s (fun _ => True) s.fallPos
  byte : s.cnt ≠ 0 → s.phase ≠ .waitFall → s.byteStart ≤ s.fallPos

theorem spanInv_recordTrace {s : State} (h : SymbolSpans s) (k : PulseSpans s) : SpanInv (recordTrace s) where
  ordered := h.spans.ordered
  bounded := h.spans.bounded
  beforePulse hp := ⟨(k.pulse hp).le, fun r hr => (k.pulse hp).stop_le r hr trivial⟩
  beforeByte hc := ⟨(h.byte hc).le, k.byte hc, (h.byte hc).stop_le⟩
  beforeAddr hs hc := ⟨(h.addr hs hc).le, (h.addr hs hc).stop_le⟩
  beforeWait hs := ⟨(h.wait hs).le, (h.wait hs).stop_le⟩
  beforeTxn hs := ⟨(h.txn hs).le, (h.txn hs).stop_le⟩

theorem records_beginTick (s : State) : (beginTick s).records = s.trace := List.append_nil _

theorem freeFrom_beginTick {s : State} {rows : Row → Prop} {a : Pos} (hle : a ≤ s.pos)
    (h : ∀ r ∈ s.trace, rows r.row → r.stop ≤ a) : FreeFrom (beginTick s) rows a :=
  ⟨hle, by rwa [records_beginTick]⟩

theorem SpanInv.symbolSpans {s : State} (h : SpanInv s) : SymbolSpans (beginTick s) where
  spans := ⟨by rw [records_beginTick]; exact h.ordered, by rw [records_beginTick]; exact h.bounded⟩
  byte hc := freeFrom_beginTick (h.beforeByte hc).1 (h.beforeByte hc).2.2
  addr hs hc := freeFrom_beginTick (h.beforeAddr hs hc).1 (h.beforeAddr hs hc).2
  wait hs := freeFrom_beginTick (h.beforeWait hs).1 (h.beforeWait hs).2
  txn hs := freeFrom_beginTick (h.beforeTxn hs).1 (h.beforeTxn hs).2

theorem SpanInv.pulseSpans {s : State} (h : SpanInv s) : PulseSpans (beginTick s) where
  pulse hp := freeFrom_beginTick (h.beforePulse hp).1 fun r hr _ => (h.beforePulse hp).2 r hr
  byte hc hp := (h.beforeByte hc).2.1 hp

/-- With nothing under way only the records themselves are left to show. -/
theorem symbolSpans_of_nothing_underWay {s : State} (h : SpansOrdered s) (hc : s.cnt = 0)
    (hclosed : s.state.txnOpen = false) : SymbolSpans s where
  spans := h
  byte k := absurd hc k
  addr k := by simp [k, TState.txnOpen] at hclosed
  wait k := by simp [k, TState.txnOpen] at hclosed
  txn k := by simp [k] at hclosed

theorem pulseSpans_closed {s : State} (hw : s.phase = .waitFall) : PulseSpans s :=
  ⟨fun k => absurd hw k, fun _ k => absurd hw k⟩

/-- A pulse that opens does so at the position, after all records so far (R73, R75). -/
theorem SymbolSpans.pulseSpans_openPulse {s : State} (h : SymbolSpans s) : PulseSpans (openPulse s) where
  pulse _ := h.spans.freeFrom_pos fun _ => True
  byte hc _ := (h.byte hc).le

theorem SymbolSpans.openPulse {s : State} (h : SymbolSpans s) : SymbolSpans (openPulse s) :=
  ⟨h.spans, h.byte, h.addr, h.wait, h.txn⟩

theorem SymbolSpans.closePulse {s : State} (h : SymbolSpans s) : SymbolSpans (closePulse s) :=
  ⟨h.spans, h.byte, h.addr, h.wait, h.txn⟩

/-! ### The end of a Sample tick -/

theorem FreeFrom.endSample {s : State} {rows : Row → Prop} {a : Pos} (h : FreeFrom s rows a) (d : Level) :
    FreeFrom (endSample d s) rows a :=
  ⟨Nat.le_succ_of_le h.le, h.stop_le⟩

theorem SymbolSpans.endSample {s : State} (h : SymbolSpans s) (d : Level) : SymbolSpans (endSample d s) where
  spans := ⟨h.spans.ordered, fun r hr => (h.spans.bounded r hr).imp_right Nat.le_succ_of_le⟩
  byte hc := (h.byte hc).endSample d
  addr hs hc := (h.addr hs hc).endSample d
  wait hs := (h.wait hs).endSample d
  txn hs := (h.txn hs).endSample d

theorem PulseSpans.endSample {s : State} (h : PulseSpans s) (d : Level) : PulseSpans (endSample d s) :=
  ⟨fun hp => (h.pulse hp).endSample d, h.byte⟩

/-! ### Errors and the idle event -/

/-- An error entry reports a span that begins where the Master row is free, and leaves nothing under way (R157). -/
theorem SymbolSpans.raiseError {s : State} (h : SymbolSpans s) (k : ErrorKind) {a : Pos} (v : Byte)
    (ha : FreeFrom s (· = .master) a) : SymbolSpans (raiseError k a s.pos v s) := by
  refine symbolSpans_of_nothing_underWay ?_ rfl rfl
  refine h.spans.append (samePulse_of_eq rfl).toSameRun rfl (fun r hr => ?_) (portsRise_errorRecords ..) fun r hr => ?_
  · rcases mem_errorRecords.1 hr with rfl | ⟨-, rfl⟩ <;> rfl
  · rcases mem_errorRecords.1 hr with rfl | ⟨hopen, rfl⟩
    · exact ha
    · exact h.txn hopen

theorem SymbolSpans.idleEvent {s : State} (h : SymbolSpans s) : SymbolSpans (idleEvent s) := by
  by_cases hs : s.state = .seekingStart
  · exact symbolSpans_of_nothing_underWay h.spans (if_pos hs) (by simp [hs, TState.txnOpen])
  · have hsame : Machine.idleEvent s = s := by simp [Machine.idleEvent, hs]
    rwa [hsame]

/-- After the idle close a pulse is open only if it began on this very tick (R75). -/
theorem SymbolSpans.afterIdleClose {s : State} (h : SymbolSpans s) (d prev : Level) :
    SymbolSpans (afterIdleClose d prev s) ∧ PulseSpans (afterIdleClose d prev s) := by
  unfold Machine.afterIdleClose
  split
  · exact ⟨h.idleEvent.openPulse, h.idleEvent.pulseSpans_openPulse⟩
  · exact ⟨h.idleEvent.closePulse, pulseSpans_closed rfl⟩

/-! ### Frames -/

/-- Where what is under way after a byte began (R103 to R111): with this byte, or where it had begun before it; the wait
for a trigger begins with this tick. -/
structure FrameStarts (s t : State) : Prop where
  addr : t.state = .readingAddress → t.addrCnt ≠ 0 →
    t.addrStart = s.byteStart ∨ s.state = .readingAddress ∧ s.addrCnt ≠ 0 ∧ t.addrStart = s.addrStart
  wait : t.state = .awaitingTrigger → t.waitStart = s.pos
  txn : t.state.txnOpen = true → t.txnStart = s.byteStart ∨ s.state.txnOpen = true ∧ t.txnStart = s.txnStart

theorem frameStarts_exec {i : Instr} {s t : State} (hf : i.isFrame = true) (h : exec i s = .next t) :
    FrameStarts s t := by
  cases i with
  | bit0 | bit1 | trigger | badPulse => cases hf
  | start f =>
    obtain ⟨-, rfl⟩ := inState_eq_next_iff.1 h
    exact ⟨fun _ k => absurd rfl k, nofun, fun _ => .inl rfl⟩
  | skip c d f =>
    obtain ⟨hs, rfl⟩ := inState_eq_next_iff.1 h
    constructor <;> simp [hs, TState.txnOpen]
  | addr a f =>
    obtain ⟨hs, rfl⟩ := inState_eq_next_iff.1 h
    refine ⟨fun _ _ => ?_, fun k => ?_, fun _ => .inr ⟨by rw [hs]; rfl, rfl⟩⟩
    · by_cases hc : s.addrCnt = 0
      · exact .inl (if_pos hc)
      · exact .inr ⟨hs, hc, if_neg hc⟩
    · dsimp only at k
      split at k <;> cases k
  | ctlInAddr | ctlInRwid | badEnd | endMark =>
    obtain ⟨-, rfl⟩ := inState_eq_next_iff.1 h
    exact ⟨nofun, nofun, nofun⟩
  | rwidWr id f =>
    obtain ⟨hs, rfl⟩ := inState_eq_next_iff.1 h
    exact ⟨nofun, nofun, fun _ => .inr ⟨by rw [hs]; rfl, rfl⟩⟩
  | rwidRd | rdata =>
    obtain ⟨hs, rfl⟩ := inState_eq_next_iff.1 h
    exact ⟨nofun, fun _ => rfl, fun _ => .inr ⟨by rw [hs]; rfl, rfl⟩⟩
  | wdata d f =>
    obtain ⟨hs, rfl⟩ := inState_eq_next_iff.1 h
    constructor <;> simp [hs, TState.txnOpen]

section
variable {s t : State} {l : List Record}

/-- Each record of a byte begins where its port is free. -/
theorem FrameRecords.freeFrom (h : FrameRecords s t l) (hs : SymbolSpans s)
    (hbyte : FreeFrom s (· ≠ .bits) s.byteStart) : ∀ r ∈ l, FreeFrom s (· = r.row) r.start := by
  cases h with
  | byte => exact List.forall_mem_singleton.2 (hbyte.of_aboveBits nofun)
  | value hrow _ hstart _ =>
    refine List.forall_mem_cons.2 ⟨hbyte.of_aboveBits nofun, List.forall_mem_singleton.2 ?_⟩
    rcases hstart with rfl | ⟨hst, hcnt, hmaster, rfl⟩
    · exact hbyte.of_aboveBits (by rcases hrow with e | e <;> simp [e])
    · exact (hs.addr hst hcnt).mono fun y hy => hy.trans hmaster
  | closing hrow _ hopen =>
    refine List.forall_mem_cons.2 ⟨hbyte.of_aboveBits nofun, List.forall_mem_cons.2 ⟨?_, List.forall_mem_singleton.2 ?_⟩⟩
    · exact hbyte.of_aboveBits (by simp [hrow])
    · exact hs.txn hopen

/-- A byte that leaves an address unfinished has no Master-row record. -/
theorem FrameRecords.ne_master (h : FrameRecords s t l) (hst : t.state = .readingAddress) (hcnt : t.addrCnt ≠ 0) :
    ∀ r ∈ l, r.row ≠ .master := by
  cases h with
  | byte => simp
  | value _ _ _ haddr => exact absurd (haddr hst) hcnt
  | closing _ _ _ hclosed => simp [hst, TState.txnOpen] at hclosed

end

/-- A byte that completes keeps the decoder's part, if it began where the rows above the Bits row are free. -/
theorem symbolSpans_exec_frame {i : Instr} {s t : State} (hf : i.isFrame = true) (hc : s.cnt = 0) (hs : SymbolSpans s)
    (hbyte : FreeFrom s (· ≠ .bits) s.byteStart) (h : exec i s = .next t) : SymbolSpans t := by
  obtain ⟨l, hout, hl⟩ := exists_frameRecords hf h
  have k := (samePulse_exec_frame hf h).toSameRun
  have starts := frameStarts_exec hf h
  have hspans : SpansOrdered t := hs.spans.append k hout hl.ends hl.portsRise (hl.freeFrom hs hbyte)
  refine ⟨hspans, fun hcnt => absurd (exec_frame_boundary hf hc h).1 hcnt, fun hst hcnt => ?_, fun hst => ?_,
    fun hopen => ?_⟩
  · have hnone := hl.ne_master hst hcnt
    rcases starts.addr hst hcnt with e | ⟨hst', hcnt', e⟩
    · rw [e]
      exact (hbyte.of_aboveBits (x := .master) nofun).append k hout hnone
    · rw [e]
      exact (hs.addr hst' hcnt').append k hout hnone
  · rw [starts.wait hst, ← k.pos]
    exact hspans.freeFrom_pos _
  · have hnone : ∀ r ∈ l, r.row ≠ .txn := fun r hr hrow => by
      simp [hl.closes ⟨r, hr, hrow⟩] at hopen
    rcases starts.txn hopen with e | ⟨hopen', e⟩
    · rw [e]
      exact (hbyte.of_aboveBits (x := .txn) nofun).append k hout hnone
    · rw [e]
      exact (hs.txn hopen').append k hout hnone

/-! ### Pulses -/

theorem eq_of_leaveIdle_eq {st x : TState} (h : leaveIdle st = x) (hx : x ≠ .seekingStart) : st = x := by
  unfold leaveIdle at h
  split at h
  · exact absurd h.symm hx
  · exact h

theorem eq_of_afterCmd_eq {st x : TState} {v : Bool} (h : afterCmd st v = x) (hx : x ≠ .seekingEnd) : st = x := by
  unfold afterCmd at h
  split at h
  · exact absurd h.symm hx
  · exact h

theorem txnOpen_eq_of_openCount_eq {a b : TState} (h : openCount a = openCount b) : a.txnOpen = b.txnOpen := by
  unfold openCount at h
  cases ha : a.txnOpen <;> cases hb : b.txnOpen <;> simp [ha, hb] at h ⊢

section
variable {s t : State}

/-- A byte that begins does so with the pulse just closed (R86). -/
theorem SymbolSpans.arriveBit (h : SymbolSpans s) (hpulse : FreeFrom s (fun _ => True) s.fallPos) :
    SymbolSpans (arriveBit s) ∧ FreeFrom (arriveBit s) (· ≠ .bits) (arriveBit s).byteStart := by
  have hbyte : FreeFrom s (· ≠ .bits) (Machine.arriveBit s).byteStart := by
    rw [arriveBit_byteStart]
    split
    · exact hpulse.of_all
    · exact h.byte ‹_›
  have hopen := txnOpen_eq_of_openCount_eq (openCount_leaveIdle s.state)
  exact ⟨⟨h.spans, fun _ => hbyte, fun k => h.addr (eq_of_leaveIdle_eq k nofun),
    fun k => h.wait (eq_of_leaveIdle_eq k nofun), fun k => h.txn (hopen.symm.trans k)⟩, hbyte⟩

/-- A Bits-row record over the pulse just closed. -/
theorem SymbolSpans.emit_bits (h : SymbolSpans s) (hpulse : FreeFrom s (fun _ => True) s.fallPos) {p : Payload}
    (hp : p.row = .bits) : SymbolSpans (emit ⟨p, s.fallPos, s.pos⟩ s) := by
  have k : SameRun s (emit ⟨p, s.fallPos, s.pos⟩ s) := (samePulse_of_eq rfl).toSameRun
  have other : ∀ {rows : Row → Prop} {a : Pos}, ¬rows .bits → FreeFrom s rows a →
      FreeFrom (emit ⟨p, s.fallPos, s.pos⟩ s) rows a := fun hrows ha =>
    ha.append k rfl (List.forall_mem_singleton.2 (by rwa [Record.row_mk, hp]))
  exact
    { spans := h.spans.append k rfl (List.forall_mem_singleton.2 rfl) (List.pairwise_singleton _ _)
        (List.forall_mem_singleton.2 hpulse.of_all)
      byte := fun hc => other (absurd rfl) (h.byte hc)
      addr := fun hs hc => other nofun (h.addr hs hc)
      wait := fun hs => other nofun (h.wait hs)
      txn := fun hs => other nofun (h.txn hs) }

/-- A bit (R86 to R89): the CMD bit and the data bits go on with the byte, the framing bit completes it. -/
theorem SymbolSpans.exec_bit {v : Bool} (h : SymbolSpans s) (hpulse : FreeFrom s (fun _ => True) s.fallPos)
    (hexec : exec (bitInstr v) s = .next t) : SymbolSpans t := by
  obtain ⟨ha, hbyte⟩ := h.arriveBit hpulse
  have hcmd := ha.emit_bits hpulse (p := .bitsCmd v) rfl
  have hdata := ha.emit_bits hpulse (p := .bitsData v) rfl
  have hstill : ∀ {p : Payload}, p.row = .bits →
      FreeFrom (emit ⟨p, s.fallPos, s.pos⟩ (Machine.arriveBit s)) (· ≠ .bits) (Machine.arriveBit s).byteStart :=
    fun hp => hbyte.append (samePulse_of_eq rfl).toSameRun rfl
      (List.forall_mem_singleton.2 (by simp [hp]))
  rcases assembleBit_eq_next (exec_bit_eq_next hexec).1 with ⟨-, -, rfl⟩ | ⟨-, rfl⟩ | ⟨-, hf⟩
  · have hopen := txnOpen_eq_of_openCount_eq (openCount_afterCmd (leaveIdle s.state) v)
    exact ⟨hcmd.spans, fun _ => hstill rfl, fun k => hcmd.addr (eq_of_afterCmd_eq k nofun),
      fun k => hcmd.wait (eq_of_afterCmd_eq k nofun), fun k => hcmd.txn (hopen.symm.trans k)⟩
  · exact ⟨hdata.spans, fun _ => hstill rfl, hdata.addr, hdata.wait, hdata.txn⟩
  · obtain ⟨i, hframe, -, he⟩ := takeFraming_eq_next hf
    refine symbolSpans_exec_frame hframe rfl ?_ ?_ he
    · exact ⟨hdata.spans, absurd rfl, hdata.addr, hdata.wait, hdata.txn⟩
    · exact hstill (p := .bitsData v) rfl

/-- A bad pulse reports the partial byte with the pulse, or the pulse alone (R91, R151). -/
theorem SymbolSpans.exec_badPulse (h : SymbolSpans s) (hpulse : FreeFrom s (fun _ => True) s.fallPos)
    (hexec : exec .badPulse s = .next t) : SymbolSpans t := by
  have k := (samePulse_exec hexec).toSameRun
  have e := emits_exec_badPulse hexec
  have hspans : SpansOrdered t := by
    refine h.spans.append k e.out e.ends e.rise fun r hr => ?_
    rcases mem_badPulseRecords.1 hr with rfl | ⟨hopen, rfl | rfl⟩
    · exact hpulse.of_all
    · dsimp only
      split
      · exact hpulse.of_all
      · exact (h.byte ‹_›).of_aboveBits nofun
    · exact h.txn hopen
  rw [exec_badPulse_eq] at hexec
  cases hexec
  exact symbolSpans_of_nothing_underWay hspans rfl rfl

theorem SymbolSpans.exec_closedPulse {i : Instr} (hi : i = bitInstr false ∨ i = bitInstr true ∨ i = .badPulse)
    (h : SymbolSpans s) (hpulse : FreeFrom s (fun _ => True) s.fallPos) (hexec : exec i s = .next t) :
    SymbolSpans t := by
  rcases hi with rfl | rfl | rfl
  · exact h.exec_bit hpulse hexec
  · exact h.exec_bit hpulse hexec
  · exact h.exec_badPulse hpulse hexec

/-- A trigger comes at a byte boundary, before the first bit of a SLAVE byte (I-4, R108). -/
theorem SymbolSpans.exec_trigger (h : SymbolSpans s) (hpulse : FreeFrom s (fun _ => True) s.fallPos)
    (hcnt : s.cnt = 0) (hexec : exec .trigger s = .next t) : SymbolSpans t := by
  obtain ⟨hs, rfl⟩ := exec_trigger_eq_next_iff.1 hexec
  have k := (samePulse_exec hexec).toSameRun
  have hfree : ∀ r ∈ [(⟨.masterTrigger, s.fallPos, s.pos⟩ : Record)], FreeFrom s (· = r.row) r.start :=
    List.forall_mem_singleton.2 hpulse.of_all
  refine ⟨h.spans.append k rfl (List.forall_mem_singleton.2 rfl) (List.pairwise_singleton _ _) hfree,
    fun hc => absurd hcnt hc, nofun, nofun, fun _ => ?_⟩
  exact (h.txn (by rw [hs]; rfl)).append k rfl (List.forall_mem_singleton.2 nofun)

end

/-! ### Rules and ticks -/

theorem spans_phaseRule {d : Level} {s u : State} (hi : Inv s) (hs : SymbolSpans s) (hp : PulseSpans s)
    (h : phaseRule d s = .next u) : SymbolSpans u ∧ PulseSpans u := by
  unfold phaseRule at h
  split at h
  · rcases waitFallRule_eq_next h with ⟨-, rfl⟩ | ⟨-, hover, rfl⟩ | ⟨-, -, rfl⟩
    · exact ⟨hs.openPulse, hs.pulseSpans_openPulse⟩
    · have hwait : s.state = .awaitingTrigger := (by simpa [triggerOverdue] using hover : _ ∧ _).1
      exact ⟨hs.raiseError _ _ (hs.wait hwait), pulseSpans_closed ‹_›⟩
    · exact ⟨hs, hp⟩
  · rename_i hphase
    have hpulse := hp.pulse (by rw [hphase]; exact nofun)
    rcases inLowRule_eq_next h with ⟨-, rfl⟩ | ⟨-, htrig, rfl⟩ | ⟨-, -, rfl⟩
    · exact ⟨hs, hp⟩
    · obtain ⟨hst, -⟩ := isTrigger_iff.1 htrig
      have ht := hs.exec_trigger hpulse (hi.awaitCnt hst) (exec_trigger_eq_next_iff.2 ⟨hst, rfl⟩)
      exact ⟨⟨ht.spans, ht.byte, ht.addr, ht.wait, ht.txn⟩, pulseSpans_closed rfl⟩
    · exact ⟨⟨hs.spans, hs.byte, hs.addr, hs.wait, hs.txn⟩, fun _ => hpulse,
        fun hc _ => hp.byte hc (by rw [hphase]; exact nofun)⟩
  · rename_i hphase
    have hpulse := hp.pulse (by rw [hphase]; exact nofun)
    rcases inHighRule_eq_next h with ⟨-, w, hw, rfl⟩ | ⟨-, -, w, hw, rfl⟩ | ⟨-, -, rfl⟩
    · exact (hs.exec_closedPulse (classifyIdle_closed _) hpulse hw).afterIdleClose ..
    · have ht := hs.exec_closedPulse (classifyStrict_closed _ _) hpulse hw
      exact ⟨ht.openPulse, ht.pulseSpans_openPulse⟩
    · exact ⟨hs, hp⟩

theorem spans_sampleTick {d : Level} {s u : State} (hi : Inv s) (hs : SymbolSpans s) (hp : PulseSpans s)
    (h : sampleTick d s = .next u) : SymbolSpans u ∧ PulseSpans u := by
  obtain ⟨-, -, ⟨-, rfl⟩ | ⟨-, w, hw, rfl⟩⟩ := sampleTick_eq_next h
  · have ht := hs.endSample d
    have kt := hp.endSample d
    exact ⟨⟨ht.spans, ht.byte, ht.addr, ht.wait, ht.txn⟩, kt.pulse, kt.byte⟩
  · obtain ⟨ht, kt⟩ := spans_phaseRule hi hs hp hw
    exact ⟨ht.endSample d, kt.endSample d⟩

/-- The truncated unit began where the Master row is free (R152). -/
theorem SymbolSpans.freeFrom_truncatedStart {mid : Bool} {s : State} (h : SymbolSpans s)
    (hmid : mid = true → FreeFrom s (fun _ => True) s.fallPos) :
    FreeFrom s (· = .master) (truncatedStart mid s) := by
  unfold truncatedStart
  split
  · rename_i hc
    have hcnt : s.cnt ≠ 0 := fun k => by simp [k] at hc
    exact (h.byte hcnt).of_aboveBits nofun
  · split
    · exact (hmid ‹_›).of_all
    · exact h.spans.freeFrom_pos _

theorem SymbolSpans.prematureEnd {mid : Bool} {s : State} (h : SymbolSpans s)
    (hmid : mid = true → FreeFrom s (fun _ => True) s.fallPos) : SymbolSpans (prematureEnd mid s) := by
  unfold Machine.prematureEnd
  split
  · exact h.raiseError _ _ (h.freeFrom_truncatedStart hmid)
  · exact h

/-- After a bit that the end of stream closes no pulse is open, and so only a partial byte can be cut off (R76, R152). -/
theorem spans_eosTick {s u : State} (hs : SymbolSpans s) (hp : PulseSpans s) (h : eosTick s = .next u) :
    SymbolSpans u ∧ PulseSpans u := by
  obtain ⟨-, w, hw, rfl⟩ := eosTick_eq_next h
  have ht : SymbolSpans (prematureEnd (midBit s) w) := by
    rcases eosClose_eq_next hw with ⟨v, hv, hphase, hmid, -⟩ | ⟨rfl, hmid⟩
    · have hpulse := hp.pulse (by rw [hphase]; exact nofun)
      exact (hs.exec_bit hpulse hv).prematureEnd fun k => by simp [hmid] at k
    · exact hs.prematureEnd fun k => hp.pulse (of_decide_eq_true (hmid.symm.trans k))
  exact ⟨⟨ht.spans, absurd rfl, ht.addr, ht.wait, ht.txn⟩, pulseSpans_closed rfl⟩

end Sys2Proof.Machine
end

section
/-! SUPPORT. The statement about the order of the spans, settled. -/

namespace Sys2Proof.Machine

/-- Settles O53: a tick that begins with both parts of the invariant, over a run that has no record of it yet, ends with
them, over a run that has its records. -/
theorem stepKeepsSpanOrder : Obligations.StepKeepsSpanOrder := by
  intro s t hi hspan h
  obtain ⟨u, hu, rfl⟩ := step_eq_next h
  have hs := hspan.symbolSpans
  have hp := hspan.pulseSpans
  cases hsym : s.nextSymbol with
  | reset =>
    rw [hsym] at hu
    cases hu
    exact spanInv_resetTick (beginTick s)
  | ignored | hold =>
    rw [hsym] at hu
    cases hu
    exact spanInv_recordTrace hs hp
  | eos =>
    rw [hsym] at hu
    obtain ⟨ht, kt⟩ := spans_eosTick hs hp hu
    exact spanInv_recordTrace ht kt
  | sample d =>
    rw [hsym] at hu
    obtain ⟨ht, kt⟩ := spans_sampleTick hi.beginTick hs hp hu
    exact spanInv_recordTrace ht kt

end Sys2Proof.Machine
end

section
/-! SUPPORT. What a step makes of the pins and of the ports (R125, R141, R145): a Hold only takes its pins, the end of
stream leaves nothing open, and no rule reads the records of the tick before or the pins after the next ones. -/

namespace Sys2Proof.Machine

/-! ### Hold -/

/-- A Hold tick takes its pins and empties the ports, and so does the ignored tick that stands for it while `done = 1`
(R23, R145). -/
theorem step_hold {s : State} {p : Pins} {rest : List Pins} (hinput : s.input = p :: rest) (hp : p.isHold = true) :
    step s = .next { s with input := rest, out := [] } := by
  obtain ⟨⟨hrst, heos⟩, hsv⟩ : (p.rst = false ∧ p.eos = false) ∧ p.sv = false := by simpa [Pins.isHold] using hp
  have hsym : s.nextSymbol = if s.done then .ignored else .hold := by
    simp [State.nextSymbol, hinput, Pins.symbol, hrst, heos, hsv]
  have htick : tickSymbol s.nextSymbol (beginTick s) = .next (beginTick s) := by
    rw [hsym]
    split <;> rfl
  rw [step, tick, htick, andThen_next, recordTrace_of_silent rfl, beginTick, hinput, List.tail_cons]

/-! ### The end of stream -/

/-- Of the symbols that are not Reset, Eos comes first (R141). -/
theorem symbol_eos {p : Pins} (hrst : p.rst = false) (heos : p.eos = true) : p.symbol false = .eos := by
  simp [Pins.symbol, hrst, heos]

theorem nextSymbol_cons (s : State) (p : Pins) (rest : List Pins) :
    { s with input := p :: rest }.nextSymbol = p.symbol s.done := rfl

/-- The end-of-stream test closes the transaction that it finds open (R101, R152). -/
theorem prematureEnd_txnOpen (mid : Bool) (s : State) : (prematureEnd mid s).state.txnOpen = false := by
  unfold prematureEnd
  split
  · rfl
  · rename_i hnone
    exact Bool.eq_false_iff.2 fun hopen => hnone (.inr (.inr hopen))

/-! ### What a symbol emits -/

/-- The records of every symbol are appended, and end at its position (R134). -/
theorem exists_out_exec {i : Instr} {s t : State} (h : exec i s = .next t) :
    ∃ l, t.out = s.out ++ l ∧ ∀ r ∈ l, r.stop = s.pos := by
  cases i with
  | bit0 =>
    obtain ⟨l, hl⟩ := exists_emits_exec_bit (v := false) h
    exact ⟨l, hl.out, hl.ends⟩
  | bit1 =>
    obtain ⟨l, hl⟩ := exists_emits_exec_bit (v := true) h
    exact ⟨l, hl.out, hl.ends⟩
  | trigger =>
    obtain ⟨-, rfl⟩ := exec_trigger_eq_next_iff.1 h
    exact ⟨_, rfl, by simp⟩
  | badPulse =>
    have hl := emits_exec_badPulse h
    exact ⟨_, hl.out, hl.ends⟩
  | start | skip | addr | ctlInAddr | rwidWr | rwidRd | ctlInRwid | wdata | endMark | badEnd | rdata =>
    obtain ⟨l, hout, hl⟩ := exists_frameRecords rfl h
    exact ⟨l, hout, hl.ends⟩

/-! ### The pins still to come

No rule reads them: each operation of a tick does the same, whatever pins follow. -/

/-- The state with other pins still to come. -/
def State.withInput (l : List Pins) (s : State) : State := { s with input := l }

@[simp] theorem withInput_state (l : List Pins) (s : State) : (s.withInput l).state = s.state := rfl
@[simp] theorem withInput_cnt (l : List Pins) (s : State) : (s.withInput l).cnt = s.cnt := rfl
@[simp] theorem withInput_phase (l : List Pins) (s : State) : (s.withInput l).phase = s.phase := rfl

/-- The outcome with other pins still to come. -/
def outcomeWithInput (l : List Pins) (o : Result) : Result := andThen o fun t => .next (t.withInput l)

section
variable (l : List Pins)

/-- A test goes the same way, so only its branches are left to look at. -/
theorem ite_withInput {c : Prop} [Decidable c] {a b a' b' : Result} (ha : a' = outcomeWithInput l a)
    (hb : b' = outcomeWithInput l b) : (if c then a' else b') = outcomeWithInput l (if c then a else b) := by
  split
  · exact ha
  · exact hb

/-- What follows an outcome in a tick writes registers and no pins. -/
theorem andThen_withInput {o o' : Result} {g : State → State} (ho : o' = outcomeWithInput l o)
    (hg : ∀ t, g (t.withInput l) = (g t).withInput l) :
    andThen o' (fun t => .next (g t)) = outcomeWithInput l (andThen o fun t => .next (g t)) := by
  subst ho
  cases o with
  | next t => exact congrArg Host.Outcome.next (hg t)
  | fault r => cases r
  | refused r => rfl

/-- A completed byte finds the same row: a frame's meaning is one test of the state (R56). -/
theorem runFrame_withInput (i : Instr) (s : State) :
    runFrame i (s.withInput l) = outcomeWithInput l (runFrame i s) := by
  cases i with
  | bit0 | bit1 | trigger | badPulse => rfl
  | start | skip | addr | ctlInAddr | rwidWr | rwidRd | ctlInRwid | wdata | endMark | badEnd | rdata =>
    exact ite_withInput l rfl rfl

theorem deliverFrame_withInput (x : Wire) (s : State) :
    deliverFrame x (s.withInput l) = outcomeWithInput l (deliverFrame x s) := by
  unfold deliverFrame
  rw [withInput_state]
  cases decode s.state x with
  | ok i => exact runFrame_withInput l i s
  | error e => rfl

theorem takeFraming_withInput (v : Bool) (s : State) :
    takeFraming v (s.withInput l) = outcomeWithInput l (takeFraming v s) :=
  deliverFrame_withInput l (s.frameWire v) { s with out := s.out ++ [⟨.bitsData v, s.fallPos, s.pos⟩], cnt := 0 }

theorem assembleBit_withInput (v : Bool) (s : State) :
    assembleBit v (s.withInput l) = outcomeWithInput l (assembleBit v s) := by
  unfold assembleBit
  rw [withInput_state]
  cases s.state.shape with
  | master => exact ite_withInput l rfl (ite_withInput l rfl (takeFraming_withInput l v s))
  | slave => exact ite_withInput l rfl (takeFraming_withInput l v s)

theorem onBit_withInput (v : Bool) (s : State) : onBit v (s.withInput l) = outcomeWithInput l (onBit v s) :=
  assembleBit_withInput l v (arriveBit s)

/-- No symbol reads the pins still to come. -/
theorem exec_withInput (i : Instr) (s : State) : exec i (s.withInput l) = outcomeWithInput l (exec i s) := by
  cases hf : i.isFrame with
  | true =>
    simp only [← runFrame_eq_exec hf]
    exact runFrame_withInput l i s
  | false =>
    cases i with
    | bit0 => exact ite_withInput l rfl (onBit_withInput l false s)
    | bit1 => exact onBit_withInput l true s
    | trigger => exact ite_withInput l rfl rfl
    | badPulse => exact ite_withInput l rfl rfl
    | start | skip | addr | ctlInAddr | rwidWr | rwidRd | ctlInRwid | wdata | endMark | badEnd | rdata => cases hf

theorem afterIdleClose_withInput (d prev : Level) (s : State) :
    afterIdleClose d prev (s.withInput l) = (afterIdleClose d prev s).withInput l := by
  unfold afterIdleClose
  split <;> rfl

theorem phaseRule_withInput (d : Level) (s : State) :
    phaseRule d (s.withInput l) = outcomeWithInput l (phaseRule d s) := by
  unfold phaseRule
  rw [withInput_phase]
  cases s.phase with
  | waitFall => exact ite_withInput l rfl (ite_withInput l rfl rfl)
  | inLow =>
    have htrig := exec_withInput l .trigger { s with risePos := s.pos }
    exact ite_withInput l (ite_withInput l (andThen_withInput l htrig fun _ => rfl) rfl) rfl
  | inHigh =>
    have hidle := exec_withInput l (classifyIdle s.lowUnits) s
    have hfall := exec_withInput l (classifyStrict s.lowUnits s.highUnits) s
    exact ite_withInput l (andThen_withInput l hidle (afterIdleClose_withInput l d s.prev))
      (ite_withInput l (andThen_withInput l hfall fun _ => rfl) rfl)

theorem sampleTick_withInput (d : Level) (s : State) :
    sampleTick d (s.withInput l) = outcomeWithInput l (sampleTick d s) :=
  ite_withInput l rfl (ite_withInput l rfl (ite_withInput l rfl
    (andThen_withInput l (phaseRule_withInput l d s) fun _ => rfl)))

theorem eosClose_withInput (s : State) : eosClose (s.withInput l) = outcomeWithInput l (eosClose s) := by
  unfold eosClose
  rw [show eosSymbol (s.withInput l) = eosSymbol s from rfl]
  cases eosSymbol s with
  | none => rfl
  | some i => exact exec_withInput l i s

theorem prematureEnd_withInput (mid : Bool) (s : State) :
    prematureEnd mid (s.withInput l) = (prematureEnd mid s).withInput l := by
  unfold prematureEnd
  rw [withInput_state, withInput_cnt]
  split <;> rfl

theorem eosTick_withInput (s : State) : eosTick (s.withInput l) = outcomeWithInput l (eosTick s) :=
  ite_withInput l rfl (andThen_withInput l (eosClose_withInput l s) fun t =>
    congrArg finishStream (prematureEnd_withInput l (midBit s) t))

theorem tickSymbol_withInput (sym : InSymbol) (s : State) :
    tickSymbol sym (s.withInput l) = outcomeWithInput l (tickSymbol sym s) := by
  cases sym with
  | reset | ignored | hold => rfl
  | eos => exact eosTick_withInput l s
  | sample d => exact sampleTick_withInput l d s

/-- A step reads the next pins and the registers: neither the pins after them nor what stands on the ports. -/
theorem step_withInput {s : State} {p : Pins} {rest : List Pins} (hinput : s.input = p :: rest) (out : List Record) :
    step { s with input := p :: l, out := out } = outcomeWithInput l (step s) := by
  have hsym : { s with input := p :: l, out := out }.nextSymbol = s.nextSymbol := by
    simp only [State.nextSymbol, hinput]
  have hbegin : beginTick { s with input := p :: l, out := out } = (beginTick s).withInput l := rfl
  rw [step, tick, hsym, hbegin]
  exact andThen_withInput l (tickSymbol_withInput l _ _) fun _ => rfl

end

/-! ### A run without its Hold ticks -/

/-- By induction over the pins. The second run may begin with other records on the ports, as after a Hold tick that it
left out. -/
theorem exists_run_without_holds {ps : List Pins} {s t : State} (hinput : s.input = ps)
    (h : runTicks ps.length s = .next t) (out : List Record) :
    ∃ u, runTicks (ps.filter fun p => !p.isHold).length
        { s with input := ps.filter fun p => !p.isHold, out := out } = .next u ∧
      { u with out := [] } = { t with out := [] } := by
  induction ps generalizing s out with
  | nil =>
    cases h
    exact ⟨_, rfl, congrArg (fun pins => { t with input := pins, out := [] }) hinput.symm⟩
  | cons p rest ih =>
    obtain ⟨s', hstep, hrest⟩ := andThen_eq_next_iff.1 h
    obtain ⟨-, -, htail, -⟩ := tickMovesPositionAndPins s s' hstep
    have hinput' : s'.input = rest := by rw [htail, hinput, List.tail_cons]
    cases hp : p.isHold with
    | true =>
      rw [step_hold hinput hp] at hstep
      cases hstep
      simpa [hp] using ih hinput' hrest out
    | false =>
      obtain ⟨u, hu, hsame⟩ := ih hinput' hrest s'.out
      refine ⟨u, ?_, hsame⟩
      rw [List.filter_cons_of_pos (by simp [hp]), List.length_cons, runTicks, step_withInput _ hinput, hstep]
      exact hu

end Sys2Proof.Machine
end

section
/-! SUPPORT. The statements about the tick and its input symbols, settled. -/

namespace Sys2Proof.Machine

/-- Settles O39: the frame of a symbol, and what it emits. -/
theorem symbolsOnlyAppendRecords : Obligations.SymbolsOnlyAppendRecords := by
  intro i s t h
  have k := samePulse_exec h
  exact ⟨k.pos, k.primed, k.prev, k.phase, k.fallPos, k.risePos, k.done, k.cfg, k.input, k.trace, exists_out_exec h⟩

/-- Settles O44: the end-of-stream test closes the transaction, the end of the tick the rest. -/
theorem eosLeavesNothingOpen : Obligations.EosLeavesNothingOpen := by
  intro s t hsym h
  obtain ⟨u, hu, rfl⟩ := step_eq_next h
  rw [hsym] at hu
  obtain ⟨hpos, -⟩ := eosTick_frame hu
  obtain ⟨-, w, -, rfl⟩ := eosTick_eq_next hu
  exact ⟨rfl, rfl, rfl, hpos, prematureEnd_txnOpen (midBit (beginTick s)) w⟩

/-- Settles O55: the run from the same ports, without its Hold ticks. -/
theorem holdTicksDoNotMatter : Obligations.HoldTicksDoNotMatter :=
  fun s _ h => exists_run_without_holds rfl h s.out

/-- Settles O5. -/
theorem holdChangesNothing : Obligations.HoldChangesNothing := by
  intro s p rest hinput hrst heos hsv
  exact step_hold hinput (by simp [Pins.isHold, hrst, heos, hsv])

/-- Settles O6: both ticks are Eos, and the start of the tick has taken the pins that they differ in. -/
theorem eosWinsOverSample : Obligations.EosWinsOverSample := by
  intro s p q rest hdone hp hq hpe hqe
  have hsym {r : Pins} (hr : r.rst = false) (he : r.eos = true) : { s with input := r :: rest }.nextSymbol = .eos := by
    rw [nextSymbol_cons, hdone, symbol_eos hr he]
  constructor
  · rw [step, tick, step, tick, hsym hp hpe, hsym hq hqe]
    rfl
  · intro t h
    obtain ⟨hpos, -⟩ := tickMovesPositionAndPins _ t h
    rwa [hsym hp hpe] at hpos

end Sys2Proof.Machine
end

section
/-! SUPPORT. The errors of a tick (R157 to R160): which kinds the records on the ports show, what each symbol and each
rule adds to them, and where the block stands once one is taken. -/

namespace Sys2Proof.Machine

/-! ### The kinds on the ports -/

/-- The kind of a Master-row ERROR record (R157). -/
def Record.errorKind? (r : Record) : Option ErrorKind :=
  match r.payload with
  | .masterError k _ => some k
  | _ => none

theorem Record.isError_eq_isSome (r : Record) : r.isError = r.errorKind?.isSome := by
  unfold Record.isError Record.errorKind?
  cases r.payload <;> rfl

theorem Record.errorKind?_eq_some_iff {r : Record} {k : ErrorKind} :
    r.errorKind? = some k ↔ ∃ v, r.payload = .masterError k v := by
  unfold Record.errorKind?
  cases r.payload <;> simp

/-- The kinds of the errors on the ports, in the order taken. -/
def State.errors (s : State) : List ErrorKind := s.out.filterMap Record.errorKind?

theorem countP_isError_eq (s : State) : s.out.countP Record.isError = s.errors.length := by
  rw [State.errors, List.length_filterMap_eq_countP]
  simp only [← Record.isError_eq_isSome]

theorem mem_errors_iff {s : State} {k : ErrorKind} :
    k ∈ s.errors ↔ ∃ r ∈ s.out, ∃ v, r.payload = .masterError k v := by
  simp only [State.errors, List.mem_filterMap, Record.errorKind?_eq_some_iff]

theorem errors_ne_nil_iff {s : State} : s.errors ≠ [] ↔ ∃ r ∈ s.out, r.isError = true := by
  rw [← List.length_pos_iff, ← countP_isError_eq, List.countP_pos_iff]

theorem errors_append {s t : State} {l : List Record} (hout : t.out = s.out ++ l) :
    t.errors = s.errors ++ l.filterMap Record.errorKind? := by
  rw [State.errors, hout, List.filterMap_append]
  rfl

/-- Records of other kinds only. -/
theorem errors_eq_of_append {s t : State} {l : List Record} (hout : t.out = s.out ++ l)
    (hl : l.filterMap Record.errorKind? = []) : t.errors = s.errors := by
  rw [errors_append hout, hl, List.append_nil]

theorem errors_eq_of_out {s t : State} (hout : t.out = s.out) : t.errors = s.errors :=
  congrArg (List.filterMap Record.errorKind?) hout

/-! ### One error entry -/

/-- From `s` to `t` one error of kind `k` is taken, and the block ends at a byte boundary in `st` (R157, R158). -/
structure TookError (s t : State) (k : ErrorKind) (st : TState) : Prop where
  errors : t.errors = s.errors ++ [k]
  cnt : t.cnt = 0
  state : t.state = st

theorem tookError_raiseError (k : ErrorKind) (a b : Pos) (v : Byte) (s : State) :
    TookError s (raiseError k a b v s) k .seekingStart where
  errors := by
    have hkind : (errorRecords k a b v s).filterMap Record.errorKind? = [k] := by
      unfold errorRecords
      split <;> rfl
    rw [errors_append (raiseError_out ..), hkind]
  cnt := rfl
  state := rfl

/-- What precedes the entry takes no error. -/
theorem TookError.of_silent {s u t : State} {k : ErrorKind} {st : TState} (h : TookError u t k st)
    (hu : u.errors = s.errors) : TookError s t k st :=
  ⟨hu ▸ h.errors, h.cnt, h.state⟩

/-- The idle event that follows an error drops nothing more, and moves on to IDLE (R75, R92). -/
theorem TookError.afterIdleClose {s t : State} {k : ErrorKind} (h : TookError s t k .seekingStart) (d prev : Level) :
    TookError s (afterIdleClose d prev t) k .idle where
  errors := (errors_eq_of_out (afterIdleClose_out d prev t)).trans h.errors
  cnt := by simp [afterIdleClose_eq, h.state]
  state := by simp [afterIdleClose_eq, h.state]

/-! ### Symbols -/

/-- No error is taken from `s` to `t`, or one that a symbol or the end of stream brings about: not MissingTrigger. -/
def ErrorOfSymbol (s t : State) : Prop :=
  t.errors = s.errors ∨ ∃ k, k ≠ .missingTrigger ∧ TookError s t k .seekingStart

theorem ErrorOfSymbol.of_silent {s u t : State} (h : ErrorOfSymbol u t) (hu : u.errors = s.errors) :
    ErrorOfSymbol s t :=
  h.imp hu.subst fun ⟨k, hk, ht⟩ => ⟨k, hk, ht.of_silent hu⟩

theorem errorOfSymbol_raiseError {k : ErrorKind} (hk : k ≠ .missingTrigger) (a b : Pos) (v : Byte) (s : State) :
    ErrorOfSymbol s (raiseError k a b v s) :=
  .inr ⟨k, hk, tookError_raiseError ..⟩

/-- Of the frames only the unexpected control bytes and the malformed END take an error (R153, R154). -/
theorem errorOfSymbol_exec_frame {i : Instr} {s t : State} (hf : i.isFrame = true) (h : exec i s = .next t) :
    ErrorOfSymbol s t := by
  cases i with
  | bit0 | bit1 | trigger | badPulse => cases hf
  | start | skip | rwidWr | rwidRd | wdata | endMark | rdata =>
    obtain ⟨-, rfl⟩ := inState_eq_next_iff.1 h
    exact .inl (errors_eq_of_append rfl rfl)
  | addr a f =>
    obtain ⟨-, rfl⟩ := inState_eq_next_iff.1 h
    refine .inl (errors_eq_of_append rfl ?_)
    split <;> rfl
  | ctlInAddr | ctlInRwid | badEnd =>
    obtain ⟨-, rfl⟩ := inState_eq_next_iff.1 h
    exact (errorOfSymbol_raiseError (by decide) ..).of_silent (errors_eq_of_append (emit_out ..) rfl)

theorem errorOfSymbol_exec_bit {v : Bool} {s t : State} (h : exec (bitInstr v) s = .next t) : ErrorOfSymbol s t := by
  rcases assembleBit_eq_next (exec_bit_eq_next h).1 with ⟨-, -, rfl⟩ | ⟨-, rfl⟩ | ⟨-, hbyte⟩
  · exact .inl (errors_eq_of_append rfl rfl)
  · exact .inl (errors_eq_of_append rfl rfl)
  · obtain ⟨i, hf, -, he⟩ := takeFraming_eq_next hbyte
    exact (errorOfSymbol_exec_frame hf he).of_silent (errors_eq_of_append rfl rfl)

/-- A bad pulse takes an error inside a transaction only (R151). -/
theorem errorOfSymbol_exec_badPulse {s t : State} (h : exec .badPulse s = .next t) : ErrorOfSymbol s t := by
  rw [exec_badPulse_eq] at h
  cases h
  by_cases hopen : s.state.txnOpen = true
  · refine .inr ⟨.invalidBitEncoding, nofun, errors_append (l := badPulseRecords s) rfl |>.trans ?_, rfl, rfl⟩
    rw [badPulseRecords, if_pos hopen]
    rfl
  · refine .inl (errors_eq_of_append (l := badPulseRecords s) rfl ?_)
    rw [badPulseRecords, if_neg hopen]
    rfl

theorem errorOfSymbol_exec_closedPulse {i : Instr} {s t : State}
    (hi : i = bitInstr false ∨ i = bitInstr true ∨ i = .badPulse) (h : exec i s = .next t) : ErrorOfSymbol s t := by
  rcases hi with rfl | rfl | rfl
  · exact errorOfSymbol_exec_bit h
  · exact errorOfSymbol_exec_bit h
  · exact errorOfSymbol_exec_badPulse h

/-! ### The phase rules -/

/-- The wait for a trigger runs out: no pulse is open, none begins, and the wait is exceeded (R155). -/
def MissesTrigger (d : Level) (s : State) : Prop :=
  s.state = .awaitingTrigger ∧ s.phase = .waitFall ∧ ¬(s.prev = .high ∧ d = .low) ∧
    s.cfg.trigWait < s.pos - s.waitStart

theorem missesTrigger_iff {d : Level} {s : State} :
    MissesTrigger d s ↔ s.phase = .waitFall ∧ fallEdge s.prev d = false ∧ triggerOverdue s = true := by
  rw [MissesTrigger, triggerOverdue_iff, ← Bool.not_eq_true, fallEdge_iff]
  tauto

theorem phaseRule_missesTrigger {d : Level} {s : State} (h : MissesTrigger d s) :
    phaseRule d s = .next (raiseError .missingTrigger s.waitStart s.pos 0 s) := by
  obtain ⟨hphase, hfall, hwait⟩ := missesTrigger_iff.1 h
  simp [phaseRule, hphase, waitFallRule, hfall, hwait]

/-- The HIGH phase of the open pulse has gone idle (R75 case 1). -/
def FindsIdle (s : State) : Prop := s.phase = .inHigh ∧ isIdle s.cfg s.highSamples = true

/-- A phase rule takes one error at most: MissingTrigger where the wait runs out, else that of the symbol it runs; only
the idle close leaves SEEKING_START again (R73 to R75). -/
theorem errors_phaseRule {d : Level} {s u : State} (h : phaseRule d s = .next u) :
    u.errors = s.errors ∨ ∃ k st, TookError s u k st ∧ (k = .missingTrigger → MissesTrigger d s) ∧
      (st = .seekingStart ∨ st = .idle ∧ FindsIdle s) := by
  unfold phaseRule at h
  split at h <;> rename_i hphase
  · rcases waitFallRule_eq_next h with ⟨-, rfl⟩ | ⟨hfall, hwait, rfl⟩ | ⟨-, -, rfl⟩
    · exact .inl rfl
    · exact .inr ⟨_, _, tookError_raiseError .., fun _ => missesTrigger_iff.2 ⟨hphase, hfall, hwait⟩, .inl rfl⟩
    · exact .inl rfl
  · rcases inLowRule_eq_next h with ⟨-, rfl⟩ | ⟨-, -, rfl⟩ | ⟨-, -, rfl⟩
    · exact .inl rfl
    · exact .inl (errors_eq_of_append rfl rfl)
    · exact .inl rfl
  · rcases inHighRule_eq_next h with ⟨hidle, w, hw, rfl⟩ | ⟨-, -, w, hw, rfl⟩ | ⟨-, -, rfl⟩
    · rcases errorOfSymbol_exec_closedPulse (classifyIdle_closed _) hw with hnone | ⟨k, hk, ht⟩
      · exact .inl ((errors_eq_of_out (afterIdleClose_out ..)).trans hnone)
      · exact .inr ⟨k, .idle, ht.afterIdleClose d s.prev, fun e => absurd e hk, .inr ⟨rfl, hphase, hidle⟩⟩
    · rcases errorOfSymbol_exec_closedPulse (classifyStrict_closed _ _) hw with hnone | ⟨k, hk, ht⟩
      · exact .inl hnone
      · exact .inr ⟨k, .seekingStart, ⟨ht.errors, ht.cnt, ht.state⟩, fun e => absurd e hk, .inl rfl⟩
    · exact .inl rfl

/-! ### The end of stream -/

/-- A pulse that took an error leaves no byte and no transaction for the end-of-stream test to find (R152, R160). -/
theorem TookError.prematureEnd_eq_self {s w : State} {k : ErrorKind} (h : TookError s w k .seekingStart) :
    prematureEnd false w = w := by
  rw [prematureEnd_eq, h.cnt, h.state]
  rfl

theorem errorOfSymbol_prematureEnd (mid : Bool) (s : State) : ErrorOfSymbol s (prematureEnd mid s) := by
  unfold prematureEnd
  split
  · exact errorOfSymbol_raiseError (by decide) ..
  · exact .inl rfl

/-- The Eos tick takes the error of the bit it closes, or PrematureEndOfStream, but not both. -/
theorem errorOfSymbol_eosTick {s u : State} (h : eosTick s = .next u) : ErrorOfSymbol s u := by
  obtain ⟨-, w, hw, rfl⟩ := eosTick_eq_next h
  have hclose : ErrorOfSymbol s (prematureEnd (midBit s) w) := by
    rcases eosClose_eq_next hw with ⟨v, hv, -, hmid, -⟩ | ⟨rfl, -⟩
    · rcases errorOfSymbol_exec_bit hv with hnone | ⟨k, hk, ht⟩
      · exact (errorOfSymbol_prematureEnd ..).of_silent hnone
      · rw [hmid, ht.prematureEnd_eq_self]
        exact .inr ⟨k, hk, ht⟩
    · exact errorOfSymbol_prematureEnd ..
  exact hclose.imp id fun ⟨k, hk, ht⟩ => ⟨k, hk, ht.errors, rfl, ht.state⟩

/-! ### Ticks -/

/-- What a completed tick can take (R155, R158, R160): no error, or one, at a byte boundary in SEEKING_START or, after
an idle close, in IDLE; MissingTrigger only where the wait runs out. -/
theorem step_errors {s t : State} (h : step s = .next t) :
    t.errors = [] ∨ ∃ k st, TookError (beginTick s) t k st ∧
      (k = .missingTrigger → ∃ d, s.nextSymbol = .sample d ∧ s.primed = true ∧ MissesTrigger d s) ∧
      (st = .seekingStart ∨ st = .idle ∧ FindsIdle s ∧ ∃ d, s.nextSymbol = .sample d) := by
  obtain ⟨u, hu, rfl⟩ := step_eq_next h
  cases hsym : s.nextSymbol with
  | reset | ignored | hold =>
    rw [hsym] at hu
    cases hu
    exact .inl rfl
  | eos =>
    rw [hsym] at hu
    rcases errorOfSymbol_eosTick hu with hnone | ⟨k, hk, ht⟩
    · exact .inl hnone
    · exact .inr ⟨k, _, ⟨ht.errors, ht.cnt, ht.state⟩, fun e => absurd e hk, .inl rfl⟩
  | sample d =>
    rw [hsym] at hu
    obtain ⟨-, -, ⟨-, rfl⟩ | ⟨hprimed, w, hw, rfl⟩⟩ := sampleTick_eq_next hu
    · exact .inl rfl
    · rcases errors_phaseRule hw with hnone | ⟨k, st, ht, hmiss, hst⟩
      · exact .inl hnone
      · exact .inr ⟨k, st, ⟨ht.errors, ht.cnt, ht.state⟩, fun e => ⟨d, rfl, hprimed, hmiss e⟩,
          hst.imp_right fun ⟨e, hidle⟩ => ⟨e, hidle, d, rfl⟩⟩

/-- The tick on which the wait runs out (R155, R157). -/
theorem step_missesTrigger {s : State} {d : Level} (hsym : s.nextSymbol = .sample d) (hprimed : s.primed = true)
    (hl : s.cfg.legal = true) (hp : s.pos + 1 < 2 ^ s.cfg.posW) (hmiss : MissesTrigger d s) :
    step s = .next
      (recordTrace (endSample d (raiseError .missingTrigger s.waitStart s.pos 0 (beginTick s)))) := by
  rw [step_sample hsym hprimed hl hp, phaseRule_missesTrigger (s := beginTick s) hmiss, andThen_next]
  rfl

end Sys2Proof.Machine
end

section
/-! SUPPORT. The statements about the error detector, settled. -/

namespace Sys2Proof.Machine

/-- Settles O36. -/
theorem errorEntryResult : Obligations.ErrorEntryResult := fun _ _ _ _ _ => rfl

/-- Settles O45, by the kinds on the ports: none or one. -/
theorem oneErrorPerTick : Obligations.OneErrorPerTick := by
  intro s t h
  rw [countP_isError_eq]
  rcases step_errors h with hnone | ⟨k, st, ht, -⟩
  · simp [hnone]
  · exact Nat.le_of_eq (congrArg List.length ht.errors)

/-- Settles O46: the one error of the tick says where it ends. -/
theorem errorResynchronises : Obligations.ErrorResynchronises := by
  intro s t h herr
  rcases step_errors h with hnone | ⟨k, st, ht, -, hst⟩
  · exact absurd hnone (errors_ne_nil_iff.2 herr)
  · refine ⟨ht.cnt, ?_⟩
    rw [ht.state]
    rcases hst with rfl | ⟨rfl, ⟨hphase, hidle⟩, hsample⟩
    · exact ⟨.inl rfl, nofun⟩
    · exact ⟨.inr rfl, fun _ => ⟨hphase, hidle, hsample⟩⟩

/-- Settles O42: on any tick MissingTrigger has this cause, and on these ticks the step is known. -/
theorem missingTriggerExactly : Obligations.MissingTriggerExactly := by
  constructor
  · intro s t h
    rw [← mem_errors_iff]
    constructor
    · intro hmem
      rcases step_errors h with hnone | ⟨k, st, ht, hmiss, -⟩
      · rw [hnone] at hmem
        cases hmem
      · rw [ht.errors] at hmem
        exact hmiss (List.mem_singleton.1 hmem).symm
    · rintro ⟨d, hsym, hprimed, hmiss⟩
      obtain ⟨u, hu, -⟩ := step_eq_next h
      rw [hsym] at hu
      obtain ⟨hl, hp, -⟩ := sampleTick_eq_next hu
      rw [step_missesTrigger hsym hprimed hl hp hmiss] at h
      cases h
      rw [mem_errors_iff]
      exact ⟨_, List.mem_cons_self, 0, rfl⟩
  · intro s d hsym hprimed hl hp hstate hphase hfall hwait
    refine ⟨_, step_missesTrigger hsym hprimed hl hp ⟨hstate, hphase, hfall, hwait⟩, ?_, rfl⟩
    simp [errorRecords, hstate, TState.txnOpen, txnRecord]

end Sys2Proof.Machine
end

section
/-! SUPPORT. The Reset tick (R141, R175): `rst` comes before every other pin, and nothing of the registers remains. -/

namespace Sys2Proof.Machine

/-- Of all the symbols Reset comes first (R141). -/
theorem symbol_reset {p : Pins} (hrst : p.rst = true) (done : Bool) : p.symbol done = .reset := if_pos hrst

/-- A Reset tick takes its pins, keeps the configuration, and begins a new run (R175). -/
theorem step_reset {s : State} (hsym : s.nextSymbol = .reset) :
    step s = .next { State.reset with cfg := s.cfg, input := s.input.tail } := by
  have htick : tickSymbol s.nextSymbol (beginTick s) = .next (resetTick (beginTick s)) := by rw [hsym]; rfl
  rw [step, tick, htick, andThen_next, recordTrace_of_silent rfl]
  rfl

end Sys2Proof.Machine
end

section
/-! SUPPORT. The statements about reset, settled. -/

namespace Sys2Proof.Machine

/-- Settles O1: a closed fact about the one state, register by register. -/
theorem resetStateValues : Obligations.ResetStateValues := by
  unfold Obligations.ResetStateValues
  decide

/-- Settles O3: `rst` makes the symbol Reset, whatever the other pins and `done` are. -/
theorem resetTickRestoresRegisters : Obligations.ResetTickRestoresRegisters := by
  intro s p rest hinput hrst
  have hsym : s.nextSymbol = .reset := by rw [State.nextSymbol, hinput]; exact symbol_reset hrst s.done
  exact ⟨_, step_reset hsym, rfl, rfl⟩

end Sys2Proof.Machine
end
